-- ==== Sys2Proof/Word.lean ====
section
/-! DEFINITION. The byte, and the plain containers of four and of eight like things (light channels,
auxiliary outputs, stop marks) that the part's collections of fixed size are made of. -/

namespace Sys2Proof

/-- One byte of a link frame. -/
abbrev Byte := BitVec 8

/-- Four like things, numbered 0 to 3: the stop marks (R18), the auxiliary outputs (R149). -/
structure Four (α : Type) where
  c0 : α
  c1 : α
  c2 : α
  c3 : α
deriving DecidableEq, Repr

/-- Eight like things, numbered 0 to 7: the light channels (R78). -/
structure Eight (α : Type) where
  c0 : α
  c1 : α
  c2 : α
  c3 : α
  c4 : α
  c5 : α
  c6 : α
  c7 : α
deriving DecidableEq, Repr

namespace Four

variable {α β γ : Type}

/-- The same thing four times. -/
def fill (a : α) : Four α := ⟨a, a, a, a⟩

def toList (v : Four α) : List α := [v.c0, v.c1, v.c2, v.c3]

def map (f : α → β) (v : Four α) : Four β := ⟨f v.c0, f v.c1, f v.c2, f v.c3⟩

def zip (f : α → β → γ) (v : Four α) (w : Four β) : Four γ :=
  ⟨f v.c0 w.c0, f v.c1 w.c1, f v.c2 w.c2, f v.c3 w.c3⟩

/-- The thing numbered `n`. -/
def get (v : Four α) (n : Fin 4) : α :=
  match n with
  | 0 => v.c0
  | 1 => v.c1
  | 2 => v.c2
  | 3 => v.c3

/-- The same four with the thing numbered `n` replaced. -/
def set (v : Four α) (n : Fin 4) (a : α) : Four α :=
  match n with
  | 0 => { v with c0 := a }
  | 1 => { v with c1 := a }
  | 2 => { v with c2 := a }
  | 3 => { v with c3 := a }

def any (p : α → Bool) (v : Four α) : Bool := p v.c0 || p v.c1 || p v.c2 || p v.c3

end Four

namespace Eight

variable {α β γ δ : Type}

/-- The same thing eight times. -/
def fill (a : α) : Eight α := ⟨a, a, a, a, a, a, a, a⟩

def toList (v : Eight α) : List α := [v.c0, v.c1, v.c2, v.c3, v.c4, v.c5, v.c6, v.c7]

def map (f : α → β) (v : Eight α) : Eight β :=
  ⟨f v.c0, f v.c1, f v.c2, f v.c3, f v.c4, f v.c5, f v.c6, f v.c7⟩

def zip (f : α → β → γ) (v : Eight α) (w : Eight β) : Eight γ :=
  ⟨f v.c0 w.c0, f v.c1 w.c1, f v.c2 w.c2, f v.c3 w.c3,
   f v.c4 w.c4, f v.c5 w.c5, f v.c6 w.c6, f v.c7 w.c7⟩

def zip3 (f : α → β → γ → δ) (u : Eight α) (v : Eight β) (w : Eight γ) : Eight δ :=
  ⟨f u.c0 v.c0 w.c0, f u.c1 v.c1 w.c1, f u.c2 v.c2 w.c2, f u.c3 v.c3 w.c3,
   f u.c4 v.c4 w.c4, f u.c5 v.c5 w.c5, f u.c6 v.c6 w.c6, f u.c7 v.c7 w.c7⟩

/-- The thing numbered `n`. -/
def get (v : Eight α) (n : Fin 8) : α :=
  match n with
  | 0 => v.c0
  | 1 => v.c1
  | 2 => v.c2
  | 3 => v.c3
  | 4 => v.c4
  | 5 => v.c5
  | 6 => v.c6
  | 7 => v.c7

/-- The same eight with the thing numbered `n` replaced. -/
def set (v : Eight α) (n : Fin 8) (a : α) : Eight α :=
  match n with
  | 0 => { v with c0 := a }
  | 1 => { v with c1 := a }
  | 2 => { v with c2 := a }
  | 3 => { v with c3 := a }
  | 4 => { v with c4 := a }
  | 5 => { v with c5 := a }
  | 6 => { v with c6 := a }
  | 7 => { v with c7 := a }

def any (p : α → Bool) (v : Eight α) : Bool :=
  p v.c0 || p v.c1 || p v.c2 || p v.c3 || p v.c4 || p v.c5 || p v.c6 || p v.c7

end Eight

end Sys2Proof
end

