-- ==== Sys2Proof/Syntax.lean ====
section
/-! DEFINITION. The commands the part takes: one constructor of `Instr` per row of spec/opcode_table.json.
A request carries the body fields that R153 gives it, each at the width R153 gives; a byte that codes an
enumeration is kept as the byte, because a value with no code is answered by the owning rule. -/

namespace Sys2Proof

/-- A half of the platen, or the camera or camera port over it (introduction, section 5.2). -/
inductive Half where
  | left
  | right
deriving DecidableEq, Repr

/-- A reading of the double-leaf gauge (R49). -/
inductive Gauge where
  | single
  | double
deriving DecidableEq, Repr

/-- The two activity counters (R136). -/
inductive CounterName where
  | a
  | b
deriving DecidableEq, Repr

/-- The seven feedback inputs of the arm and the platen (R35). -/
inductive Feedback where
  | lift
  | grip
  | carryEnd
  | release
  | park
  | platenUp
  | platenDown
deriving DecidableEq, Repr

/-- The switch-class inputs that LMN debounces (R35). -/
inductive SwitchInput where
  | pedal
  | feedback (f : Feedback)
  | pageMotion (h : Half)
  | lightCurtain
  | cameraReady (h : Half)
  | lampFault (channel : Fin 8)
deriving DecidableEq, Repr

/-- The body of a SET TURN TIMING request (R61, R153): timeouts and interval in ms. -/
structure TimingFields where
  platenUp : BitVec 16
  lift : BitVec 16
  grip : BitVec 16
  carry : BitVec 16
  release : BitVec 16
  returning : BitVec 16
  platenDown : BitVec 16
  interval : BitVec 16
  multiplier : Byte
deriving DecidableEq, Repr

/-- One shot of a LOAD PLAN body (R153): 27 bytes. -/
structure ShotFields where
  cameras : Byte
  drives : Eight (BitVec 16)
  onTime : BitVec 32
  delay : BitVec 32
  tag : Byte
  policy : Byte
deriving DecidableEq, Repr

/-- The commands: the requests of the host (R153), the link's own events (R143 to R146), the resets
(R150), the confirmed input changes (R35, R36), the timed events, and the steps the part begins by
itself (SHOT_BEGIN, TURN_BEGIN, END_RECORD). -/
inductive Instr where
  -- requests: the volume accounting unit
  | openVolume (shelfMark : List Byte) (job : BitVec 32) (leafCount : BitVec 16) (handling : Byte)
      (sideCeiling : BitVec 32) (volumeCeiling : BitVec 48)
  | closeVolume
  | queryVolume
  | defineSpan (first : BitVec 16) (count : BitVec 16) (style : Byte) (start : BitVec 16)
  | deleteSpan (first : BitVec 16)
  | querySpan (index : Byte)
  | markLeaf (leaf : BitVec 16) (override : Byte) (recto : Byte) (verso : Byte)
  | queryLeaf (leaf : BitVec 16)
  | setPosition (opening : BitVec 16)
  | setMark (mark : Byte) (enabled : Byte) (cls : Byte) (first : BitVec 16) (last : BitVec 16)
  | clearMark (mark : Byte)
  | queryMarks
  | enterInsert (half : Byte) (sides : Byte)
  | advance
  | leaveInsert
  | queryInsert (frame : Byte) (side : Byte)
  -- requests: the line monitor and the cradle sequencer
  | setDebounce (period : Byte)
  | home
  | arm
  | disarm
  | run (flags : Byte)
  | turn (direction : Byte)
  | capture
  | platenUp
  | platenDown
  | recover (opening : BitVec 16)
  | setTurnTiming (timing : TimingFields)
  | queryTurnTiming
  | setStep (mode : Byte)
  | resume (flags : Byte)
  | halt
  | abort
  -- requests: the guard unit
  | setGuardEnable (enable : Byte)
  | readGuard
  | clearGuard
  -- requests: the illumination controller and the exposure accounting unit
  | setCalibration (channel : Byte) (illuminance : BitVec 32) (weight : BitVec 16) (coverage : Byte)
      (flashLimit : BitVec 16) (enabled : Byte)
  | queryCalibration (channel : Byte)
  | previewOn (drives : Eight (BitVec 16))
  | previewOff
  | setPreviewLimit (seconds : BitVec 16)
  | readLights
  | setCeilings (sideCeiling : BitVec 32) (volumeCeiling : BitVec 48)
  | readDose
  -- requests: the shot plan unit
  | loadPlan (flags : Byte) (planId : BitVec 16) (shots : List ShotFields)
  | queryPlan (slot : Byte)
  | readCameras
  | setCameraTiming (readyWait : BitVec 16) (frameGrace : BitVec 16)
  | queryCameraTiming
  -- requests: the result queue
  | takeResult
  | peekResult
  | readQueue
  | flushResults
  | setQueueCapacity (capacity : Byte)
  | setSummaryMode (mode : Byte)
  | clearSummary
  | setStaleInterval (seconds : Byte)
  -- requests: counters, time base and history
  | readTime
  | setCounter (counter : Byte) (value : BitVec 32) (event : Byte) (edge : Byte) (threshold : Byte)
      (invert : Byte)
  | readCounters
  | setHistoryEnable (enable : Byte)
  | readHistory
  -- requests: the link, conditions, auxiliary outputs, identification and the store
  | readLink
  | clearLinkCounts
  | readConditions
  | clearConditions (mask : BitVec 32)
  | setMask (mask : BitVec 32)
  | setAux (mask : Byte)
  | clearAux (mask : Byte)
  | setAuxSource (output : Byte) (source : Byte)
  | identify
  | reset
  | saveSettings
  | readStore
  -- events of the link (REPLY_SENT may be the moment of a reset and carries the levels of the strap pins)
  | unknownKind (kind : Byte)
  | frameReceived (tag : Byte) (kind : Byte) (body : List Byte) (check : BitVec 16)
  | frameTimeout
  | replySent
  | noticeSent
  -- resets (with the levels of the two strap pins) and the store
  | powerOn (straps : BitVec 2)
  | resetPin (straps : BitVec 2)
  | supplyFall (straps : BitVec 2)
  | saveComplete
  -- inputs (those at whose event CSQ may read the double-leaf gauge carry its level)
  | startingLevel (input : SwitchInput) (asserted : Bool)
  | pedalPress
  | pedalRelease
  | platenUpConfirmed (gauge : Gauge)
  | liftConfirmed (gauge : Gauge)
  | gripConfirmed (gauge : Gauge)
  | carryEndConfirmed (gauge : Gauge)
  | releaseConfirmed
  | parkConfirmed
  | platenDownConfirmed
  | phaseTimeout (gauge : Gauge)
  | pageMotionChange (half : Half) (asserted : Bool)
  | settleExpiry
  | settleLimitReached
  | shotBegin
  | cameraReadyChange (camera : Half) (ready : Bool)
  | readyWaitExpiry
  | triggerTimerExpiry
  | trigPulseEnd
  | flashTimerExpiry
  | turnBegin (gauge : Gauge)
  | endRecord
  | exposureEndPulse (camera : Half)
  | frameGraceExpiry
  | lightCurtainIntruded
  | lightCurtainCleared
  | lampFaultAsserted (channel : Fin 8)
  | lampFaultCleared (channel : Fin 8)
  | previewTimerExpiry
  | staleTimerExpiry
  | timeBaseWrap
  | durationMillisecond (counter : CounterName)
  | byteReceived (byte : Byte)
  | feedbackInputDeasserted (input : Feedback)
deriving DecidableEq, Repr

end Sys2Proof
end

