-- ==== Sys2Proof/Decode.lean ====
section
/-! DEFINITION. The layouts of the link: little-endian fields, the frame's CRC, the request bodies of R153
read (`decodeRequest`) and written (`encodeRequest`), and the table word of the host's probe
(spec/opcode_table.json gives no row any bits, so no word spells a command). -/

namespace Sys2Proof

/-! ### Numbers in bytes (introduction 5.3: little-endian and unsigned) -/

/-- The low byte of a number. -/
def u8 (n : Nat) : Byte := BitVec.ofNat 8 n

/-- A number in `k` bytes, least significant first. -/
def leBytes : Nat → Nat → List Byte
  | 0, _ => []
  | k + 1, n => u8 n :: leBytes k (n / 256)

/-- The number that bytes spell, least significant first. -/
def ofLe : List Byte → Nat
  | [] => 0
  | b :: bs => b.toNat + 256 * ofLe bs

/-- The fields of the given sizes read from bytes, exactly as many bytes as the sizes add up to. -/
def splitFields : List Nat → List Byte → Option (List Nat)
  | [], [] => some []
  | [], _ :: _ => none
  | k :: ks, bs =>
    if bs.length < k then none
    else (splitFields ks (bs.drop k)).map (ofLe (bs.take k) :: ·)

/-- Fields of the given sizes and values written one after another. -/
def joinFields : List (Nat × Nat) → List Byte
  | [] => []
  | (k, n) :: fs => leBytes k n ++ joinFields fs

/-! ### The frame (R143) -/

/-- One byte taken into the CRC-16 of R143 (polynomial 0x1021, not reflected): eight shifts. -/
def crcByte (crc : BitVec 16) (b : Byte) : BitVec 16 :=
  let shift (c : BitVec 16) : BitVec 16 := if c.msb then (c <<< 1) ^^^ 0x1021#16 else c <<< 1
  shift (shift (shift (shift (shift (shift (shift (shift (crc ^^^ (b.zeroExtend 16 <<< 8)))))))))

/-- The CRC-16 of R143: initial value 0xFFFF, final XOR 0. -/
def crc16 (bytes : List Byte) : BitVec 16 := bytes.foldl crcByte 0xFFFF#16

/-- The CHECK of a frame: computed over LEN, TAG, KIND and BODY (R143). -/
def frameCheck (tag kind : Byte) (body : List Byte) : BitVec 16 :=
  crc16 (u8 (body.length + 2) :: tag :: kind :: body)

/-- A frame whole, from SYNC to CHECK, the CHECK high byte first (R143, section 10.6). -/
def frameBytes (tag kind : Byte) (body : List Byte) : List Byte :=
  let check := frameCheck tag kind body
  0xA5#8 :: u8 (body.length + 2) :: tag :: kind :: body ++ [u8 (check.toNat / 256), u8 check.toNat]

/-! ### Request bodies (R153) -/

/-- What LIF finds in a request (R145): a KIND outside the assigned codes, a body of the wrong size for
its KIND, or a request. -/
inductive Decoded where
  | unknown (kind : Byte)
  | badLength
  | request (c : Instr)
deriving DecidableEq, Repr

/-- The assigned KIND codes (R153). -/
def assignedKinds : List Nat :=
  [0x01, 0x02, 0x03, 0x04, 0x05, 0x06, 0x07, 0x08, 0x09, 0x0A, 0x0B, 0x0C, 0x10, 0x11, 0x12, 0x13, 0x18, 0x19, 0x1A, 0x1B, 0x1C, 0x1D, 0x1E, 0x1F,
   0x20, 0x21, 0x22, 0x23, 0x28, 0x29, 0x2A, 0x2B, 0x2C, 0x2D, 0x2E, 0x30, 0x31, 0x32, 0x33, 0x34, 0x35, 0x38, 0x39, 0x40, 0x41, 0x42, 0x43, 0x44,
   0x48, 0x49, 0x4A, 0x4B, 0x4C, 0x4D, 0x4E, 0x4F, 0x50, 0x51, 0x52, 0x53, 0x54, 0x58, 0x59, 0x5A, 0x5B, 0x5C, 0x60, 0x61, 0x62, 0x68, 0x69, 0x6A, 0x6B]

/-- Whether R153 assigns the code to a request. -/
def assignedKind (kind : Byte) : Bool := assignedKinds.contains kind.toNat

/-- A request read from fixed fields: the wrong size is LENGTH. -/
def fields (sizes : List Nat) (body : List Byte) (make : List Nat → Option Instr) : Decoded :=
  match (splitFields sizes body).bind make with
  | some c => .request c
  | none => .badLength

/-- A request with no body. -/
def noBody (c : Instr) : List Byte → Decoded
  | [] => .request c
  | _ :: _ => .badLength

/-- OPEN VOLUME: the shelf mark's length byte, its characters, then fixed fields. -/
def decodeOpenVolume : List Byte → Decoded
  | [] => .badLength
  | n :: rest =>
    if rest.length < n.toNat then .badLength
    else fields [4, 2, 1, 4, 6] (rest.drop n.toNat) fun
      | [a, b, c, d, e] => some (.openVolume (rest.take n.toNat) (.ofNat 32 a) (.ofNat 16 b) (.ofNat 8 c)
          (.ofNat 32 d) (.ofNat 48 e))
      | _ => none

/-- SET TURN TIMING: seven timeouts, the settle interval and the multiplier. -/
def decodeTurnTiming (body : List Byte) : Decoded :=
  fields [2, 2, 2, 2, 2, 2, 2, 2, 1] body fun
    | [a, b, c, d, e, f, g, h, i] => some (.setTurnTiming ⟨.ofNat 16 a, .ofNat 16 b, .ofNat 16 c,
        .ofNat 16 d, .ofNat 16 e, .ofNat 16 f, .ofNat 16 g, .ofNat 16 h, .ofNat 8 i⟩)
    | _ => none

/-- Eight numbers as eight drive levels of two bytes. -/
def drivesOf : List Nat → Option (Eight (BitVec 16))
  | [a, b, c, d, e, f, g, h] => some ⟨.ofNat 16 a, .ofNat 16 b, .ofNat 16 c, .ofNat 16 d,
      .ofNat 16 e, .ofNat 16 f, .ofNat 16 g, .ofNat 16 h⟩
  | _ => none

/-- Eight drive levels, two bytes each. -/
def encodeDrives (d : Eight (BitVec 16)) : List Byte :=
  joinFields (d.toList.map fun x => (2, x.toNat))

/-- PREVIEW ON: the drive levels of channels 0 to 7. -/
def decodePreviewOn (body : List Byte) : Decoded :=
  fields [2, 2, 2, 2, 2, 2, 2, 2] body fun ns => (drivesOf ns).map .previewOn

/-- The sizes of one shot's fields: 27 bytes. -/
def shotSizes : List Nat := [1, 2, 2, 2, 2, 2, 2, 2, 2, 4, 4, 1, 1]

/-- One shot read from its 27 bytes. -/
def decodeShot (bytes : List Byte) : Option ShotFields :=
  match splitFields shotSizes bytes with
  | some [cam, d0, d1, d2, d3, d4, d5, d6, d7, t, dl, tag, pol] =>
    some ⟨.ofNat 8 cam, ⟨.ofNat 16 d0, .ofNat 16 d1, .ofNat 16 d2, .ofNat 16 d3, .ofNat 16 d4,
      .ofNat 16 d5, .ofNat 16 d6, .ofNat 16 d7⟩, .ofNat 32 t, .ofNat 32 dl, .ofNat 8 tag, .ofNat 8 pol⟩
  | _ => none

/-- `n` shots, 27 bytes each and nothing after them. -/
def decodeShots : Nat → List Byte → Option (List ShotFields)
  | 0, [] => some []
  | 0, _ :: _ => none
  | n + 1, bytes =>
    match decodeShot (bytes.take 27), decodeShots n (bytes.drop 27) with
    | some x, some xs => some (x :: xs)
    | _, _ => none

/-- One shot's 27 bytes. -/
def encodeShot (x : ShotFields) : List Byte :=
  joinFields [(1, x.cameras.toNat)] ++ encodeDrives x.drives ++
    joinFields [(4, x.onTime.toNat), (4, x.delay.toNat), (1, x.tag.toNat), (1, x.policy.toNat)]

/-- Shots one after another. -/
def encodeShots : List ShotFields → List Byte
  | [] => []
  | x :: xs => encodeShot x ++ encodeShots xs

/-- LOAD PLAN: flags, plan id, shot count, and that many shots. -/
def decodeLoadPlan : List Byte → Decoded
  | flags :: id0 :: id1 :: n :: rest =>
    match decodeShots n.toNat rest with
    | some shots => .request (.loadPlan flags (.ofNat 16 (ofLe [id0, id1])) shots)
    | none => .badLength
  | _ => .badLength

/-- The request of a KIND and a BODY (R145, R153). -/
def decodeRequest (kind : Byte) (body : List Byte) : Decoded :=
  match kind.toNat with
  | 0x01 => decodeOpenVolume body
  | 0x02 => noBody .closeVolume body
  | 0x03 => noBody .queryVolume body
  | 0x04 => fields [2, 2, 1, 2] body fun
    | [a, b, c, d] => some (.defineSpan (.ofNat 16 a) (.ofNat 16 b) (.ofNat 8 c) (.ofNat 16 d))
    | _ => none
  | 0x05 => fields [2] body fun
    | [a] => some (.deleteSpan (.ofNat 16 a))
    | _ => none
  | 0x06 => fields [1] body fun
    | [a] => some (.querySpan (.ofNat 8 a))
    | _ => none
  | 0x07 => fields [2, 1, 1, 1] body fun
    | [a, b, c, d] => some (.markLeaf (.ofNat 16 a) (.ofNat 8 b) (.ofNat 8 c) (.ofNat 8 d))
    | _ => none
  | 0x08 => fields [2] body fun
    | [a] => some (.queryLeaf (.ofNat 16 a))
    | _ => none
  | 0x09 => fields [2] body fun
    | [a] => some (.setPosition (.ofNat 16 a))
    | _ => none
  | 0x0A => fields [1, 1, 1, 2, 2] body fun
    | [a, b, c, d, e] => some (.setMark (.ofNat 8 a) (.ofNat 8 b) (.ofNat 8 c) (.ofNat 16 d) (.ofNat 16 e))
    | _ => none
  | 0x0B => fields [1] body fun
    | [a] => some (.clearMark (.ofNat 8 a))
    | _ => none
  | 0x0C => noBody .queryMarks body
  | 0x10 => fields [1, 1] body fun
    | [a, b] => some (.enterInsert (.ofNat 8 a) (.ofNat 8 b))
    | _ => none
  | 0x11 => noBody .advance body
  | 0x12 => noBody .leaveInsert body
  | 0x13 => fields [1, 1] body fun
    | [a, b] => some (.queryInsert (.ofNat 8 a) (.ofNat 8 b))
    | _ => none
  | 0x18 => fields [1] body fun
    | [a] => some (.setDebounce (.ofNat 8 a))
    | _ => none
  | 0x19 => noBody .home body
  | 0x1A => noBody .arm body
  | 0x1B => noBody .disarm body
  | 0x1C => fields [1] body fun
    | [a] => some (.run (.ofNat 8 a))
    | _ => none
  | 0x1D => fields [1] body fun
    | [a] => some (.turn (.ofNat 8 a))
    | _ => none
  | 0x1E => noBody .capture body
  | 0x1F => noBody .platenUp body
  | 0x20 => noBody .platenDown body
  | 0x21 => fields [2] body fun
    | [a] => some (.recover (.ofNat 16 a))
    | _ => none
  | 0x22 => decodeTurnTiming body
  | 0x23 => noBody .queryTurnTiming body
  | 0x28 => fields [1] body fun
    | [a] => some (.setStep (.ofNat 8 a))
    | _ => none
  | 0x29 => fields [1] body fun
    | [a] => some (.resume (.ofNat 8 a))
    | _ => none
  | 0x2A => noBody .halt body
  | 0x2B => noBody .abort body
  | 0x2C => fields [1] body fun
    | [a] => some (.setGuardEnable (.ofNat 8 a))
    | _ => none
  | 0x2D => noBody .readGuard body
  | 0x2E => noBody .clearGuard body
  | 0x30 => fields [1, 4, 2, 1, 2, 1] body fun
    | [a, b, c, d, e, f] => some (.setCalibration (.ofNat 8 a) (.ofNat 32 b) (.ofNat 16 c) (.ofNat 8 d) (.ofNat 16 e) (.ofNat 8 f))
    | _ => none
  | 0x31 => fields [1] body fun
    | [a] => some (.queryCalibration (.ofNat 8 a))
    | _ => none
  | 0x32 => decodePreviewOn body
  | 0x33 => noBody .previewOff body
  | 0x34 => fields [2] body fun
    | [a] => some (.setPreviewLimit (.ofNat 16 a))
    | _ => none
  | 0x35 => noBody .readLights body
  | 0x38 => fields [4, 6] body fun
    | [a, b] => some (.setCeilings (.ofNat 32 a) (.ofNat 48 b))
    | _ => none
  | 0x39 => noBody .readDose body
  | 0x40 => decodeLoadPlan body
  | 0x41 => fields [1] body fun
    | [a] => some (.queryPlan (.ofNat 8 a))
    | _ => none
  | 0x42 => noBody .readCameras body
  | 0x43 => fields [2, 2] body fun
    | [a, b] => some (.setCameraTiming (.ofNat 16 a) (.ofNat 16 b))
    | _ => none
  | 0x44 => noBody .queryCameraTiming body
  | 0x48 => noBody .takeResult body
  | 0x49 => noBody .peekResult body
  | 0x4A => noBody .readQueue body
  | 0x4B => noBody .flushResults body
  | 0x4C => fields [1] body fun
    | [a] => some (.setQueueCapacity (.ofNat 8 a))
    | _ => none
  | 0x4D => fields [1] body fun
    | [a] => some (.setSummaryMode (.ofNat 8 a))
    | _ => none
  | 0x4E => noBody .clearSummary body
  | 0x4F => fields [1] body fun
    | [a] => some (.setStaleInterval (.ofNat 8 a))
    | _ => none
  | 0x50 => noBody .readTime body
  | 0x51 => fields [1, 4, 1, 1, 1, 1] body fun
    | [a, b, c, d, e, f] => some (.setCounter (.ofNat 8 a) (.ofNat 32 b) (.ofNat 8 c) (.ofNat 8 d) (.ofNat 8 e) (.ofNat 8 f))
    | _ => none
  | 0x52 => noBody .readCounters body
  | 0x53 => fields [1] body fun
    | [a] => some (.setHistoryEnable (.ofNat 8 a))
    | _ => none
  | 0x54 => noBody .readHistory body
  | 0x58 => noBody .readLink body
  | 0x59 => noBody .clearLinkCounts body
  | 0x5A => noBody .readConditions body
  | 0x5B => fields [4] body fun
    | [a] => some (.clearConditions (.ofNat 32 a))
    | _ => none
  | 0x5C => fields [4] body fun
    | [a] => some (.setMask (.ofNat 32 a))
    | _ => none
  | 0x60 => fields [1] body fun
    | [a] => some (.setAux (.ofNat 8 a))
    | _ => none
  | 0x61 => fields [1] body fun
    | [a] => some (.clearAux (.ofNat 8 a))
    | _ => none
  | 0x62 => fields [1, 1] body fun
    | [a, b] => some (.setAuxSource (.ofNat 8 a) (.ofNat 8 b))
    | _ => none
  | 0x68 => noBody .identify body
  | 0x69 => noBody .reset body
  | 0x6A => noBody .saveSettings body
  | 0x6B => noBody .readStore body
  | _ => .unknown kind

/-- The KIND and BODY of a request (R153); no other command has one. -/
def encodeRequest : Instr → Option (Byte × List Byte)
  | .openVolume mark job leaves cls side volume =>
    some (0x01, u8 mark.length :: mark ++ joinFields [(4, job.toNat), (2, leaves.toNat), (1, cls.toNat),
      (4, side.toNat), (6, volume.toNat)])
  | .closeVolume => some (0x02, [])
  | .queryVolume => some (0x03, [])
  | .defineSpan a b c d => some (0x04, joinFields [(2, a.toNat), (2, b.toNat), (1, c.toNat), (2, d.toNat)])
  | .deleteSpan a => some (0x05, joinFields [(2, a.toNat)])
  | .querySpan a => some (0x06, joinFields [(1, a.toNat)])
  | .markLeaf a b c d => some (0x07, joinFields [(2, a.toNat), (1, b.toNat), (1, c.toNat), (1, d.toNat)])
  | .queryLeaf a => some (0x08, joinFields [(2, a.toNat)])
  | .setPosition a => some (0x09, joinFields [(2, a.toNat)])
  | .setMark a b c d e => some (0x0A, joinFields [(1, a.toNat), (1, b.toNat), (1, c.toNat), (2, d.toNat), (2, e.toNat)])
  | .clearMark a => some (0x0B, joinFields [(1, a.toNat)])
  | .queryMarks => some (0x0C, [])
  | .enterInsert a b => some (0x10, joinFields [(1, a.toNat), (1, b.toNat)])
  | .advance => some (0x11, [])
  | .leaveInsert => some (0x12, [])
  | .queryInsert a b => some (0x13, joinFields [(1, a.toNat), (1, b.toNat)])
  | .setDebounce a => some (0x18, joinFields [(1, a.toNat)])
  | .home => some (0x19, [])
  | .arm => some (0x1A, [])
  | .disarm => some (0x1B, [])
  | .run a => some (0x1C, joinFields [(1, a.toNat)])
  | .turn a => some (0x1D, joinFields [(1, a.toNat)])
  | .capture => some (0x1E, [])
  | .platenUp => some (0x1F, [])
  | .platenDown => some (0x20, [])
  | .recover a => some (0x21, joinFields [(2, a.toNat)])
  | .setTurnTiming t =>
    some (0x22, joinFields [(2, t.platenUp.toNat), (2, t.lift.toNat), (2, t.grip.toNat), (2, t.carry.toNat),
      (2, t.release.toNat), (2, t.returning.toNat), (2, t.platenDown.toNat), (2, t.interval.toNat),
      (1, t.multiplier.toNat)])
  | .queryTurnTiming => some (0x23, [])
  | .setStep a => some (0x28, joinFields [(1, a.toNat)])
  | .resume a => some (0x29, joinFields [(1, a.toNat)])
  | .halt => some (0x2A, [])
  | .abort => some (0x2B, [])
  | .setGuardEnable a => some (0x2C, joinFields [(1, a.toNat)])
  | .readGuard => some (0x2D, [])
  | .clearGuard => some (0x2E, [])
  | .setCalibration a b c d e f => some (0x30, joinFields [(1, a.toNat), (4, b.toNat), (2, c.toNat), (1, d.toNat), (2, e.toNat), (1, f.toNat)])
  | .queryCalibration a => some (0x31, joinFields [(1, a.toNat)])
  | .previewOn d => some (0x32, encodeDrives d)
  | .previewOff => some (0x33, [])
  | .setPreviewLimit a => some (0x34, joinFields [(2, a.toNat)])
  | .readLights => some (0x35, [])
  | .setCeilings a b => some (0x38, joinFields [(4, a.toNat), (6, b.toNat)])
  | .readDose => some (0x39, [])
  | .loadPlan flags planId shots =>
    some (0x40, joinFields [(1, flags.toNat), (2, planId.toNat), (1, shots.length)] ++ encodeShots shots)
  | .queryPlan a => some (0x41, joinFields [(1, a.toNat)])
  | .readCameras => some (0x42, [])
  | .setCameraTiming a b => some (0x43, joinFields [(2, a.toNat), (2, b.toNat)])
  | .queryCameraTiming => some (0x44, [])
  | .takeResult => some (0x48, [])
  | .peekResult => some (0x49, [])
  | .readQueue => some (0x4A, [])
  | .flushResults => some (0x4B, [])
  | .setQueueCapacity a => some (0x4C, joinFields [(1, a.toNat)])
  | .setSummaryMode a => some (0x4D, joinFields [(1, a.toNat)])
  | .clearSummary => some (0x4E, [])
  | .setStaleInterval a => some (0x4F, joinFields [(1, a.toNat)])
  | .readTime => some (0x50, [])
  | .setCounter a b c d e f => some (0x51, joinFields [(1, a.toNat), (4, b.toNat), (1, c.toNat), (1, d.toNat), (1, e.toNat), (1, f.toNat)])
  | .readCounters => some (0x52, [])
  | .setHistoryEnable a => some (0x53, joinFields [(1, a.toNat)])
  | .readHistory => some (0x54, [])
  | .readLink => some (0x58, [])
  | .clearLinkCounts => some (0x59, [])
  | .readConditions => some (0x5A, [])
  | .clearConditions a => some (0x5B, joinFields [(4, a.toNat)])
  | .setMask a => some (0x5C, joinFields [(4, a.toNat)])
  | .setAux a => some (0x60, joinFields [(1, a.toNat)])
  | .clearAux a => some (0x61, joinFields [(1, a.toNat)])
  | .setAuxSource a b => some (0x62, joinFields [(1, a.toNat), (1, b.toNat)])
  | .identify => some (0x68, [])
  | .reset => some (0x69, [])
  | .saveSettings => some (0x6A, [])
  | .readStore => some (0x6B, [])
  | .unknownKind _ => none
  | .frameReceived _ _ _ _ => none
  | .frameTimeout => none
  | .replySent => none
  | .noticeSent => none
  | .powerOn _ => none
  | .resetPin _ => none
  | .supplyFall _ => none
  | .saveComplete => none
  | .startingLevel _ _ => none
  | .pedalPress => none
  | .pedalRelease => none
  | .platenUpConfirmed _ => none
  | .liftConfirmed _ => none
  | .gripConfirmed _ => none
  | .carryEndConfirmed _ => none
  | .releaseConfirmed => none
  | .parkConfirmed => none
  | .platenDownConfirmed => none
  | .phaseTimeout _ => none
  | .pageMotionChange _ _ => none
  | .settleExpiry => none
  | .settleLimitReached => none
  | .shotBegin => none
  | .cameraReadyChange _ _ => none
  | .readyWaitExpiry => none
  | .triggerTimerExpiry => none
  | .trigPulseEnd => none
  | .flashTimerExpiry => none
  | .turnBegin _ => none
  | .endRecord => none
  | .exposureEndPulse _ => none
  | .frameGraceExpiry => none
  | .lightCurtainIntruded => none
  | .lightCurtainCleared => none
  | .lampFaultAsserted _ => none
  | .lampFaultCleared _ => none
  | .previewTimerExpiry => none
  | .staleTimerExpiry => none
  | .timeBaseWrap => none
  | .durationMillisecond _ => none
  | .byteReceived _ => none
  | .feedbackInputDeasserted _ => none

/-- The KIND code of a request; 0 for a command that is not one. -/
def requestKind (c : Instr) : Byte := ((encodeRequest c).map (·.1)).getD 0

/-! ### The host's probe -/

/-- The command a word spells by the bits of spec/opcode_table.json: the table gives bits to no row, so
no word spells one. -/
def decodeTableWord (_nbits _w : Nat) : Option Instr := none

end Sys2Proof
end

