-- ==== Sys2Proof/Config.lean ====
section
/-! DEFINITION. The free values: what the spec leaves open and nothing in Lean can evaluate. -/

namespace Sys2Proof

/-- The hardware revision of R150, a number from 1 to 255, less 1 (log 30). -/
opaque Config.hardwareRevision : Fin 255

/-- Whether the double-leaf gauge stands at DOUBLE at the `n`-th event that the part begins by itself and at
which it may read the gauge (R49): the level of an input pin that no command gave (log 11). -/
opaque Config.gaugeIsDouble : Nat → Bool

/-- What the 4-byte turn duration of a TURN record carries for a duration of 2^32 ms or more: the spec
gives no rule for it (log 18). -/
opaque Config.overlongDuration : Nat → BitVec 32

/-- The levels of the two strap pins when a RESET request's reply has been sent and the part reads them anew, at
the `n`-th free value (R143, R150): pins that no command gave (log 13). -/
opaque Config.strapPins : Nat → BitVec 2

/-- The level of a switch-class input at a sample, at the `n`-th free value (R35): a pin that no command gave
(log 10). -/
opaque Config.pinLevel : Nat → Bool

end Sys2Proof
end

