-- ==== Sys2Proof/Machine/State.lean ====
section
/-! DEFINITION. The state of the KC-62: plain data, one structure per functional block (introduction,
section 2), and the machine right after reset. INVENTORY.md lists every field with its rule. -/

namespace Sys2Proof.Machine

/-! ### Names the blocks share -/

/-- What a channel lights and which cameras a shot triggers (R78, section 7.1). -/
inductive Coverage where
  | left
  | right
  | both
deriving DecidableEq, Repr

/-- A timer that runs: the figure it read when it started and what is left of it, in µs. -/
structure Timer where
  figure : Nat
  left : Nat
deriving DecidableEq, Repr

/-! ### VAU: volumes, leaves and inserts (chapters 1 and 2) -/

/-- The handling class of a volume (R1). -/
inductive HandlingClass where
  | general
  | fragile
  | brittle
deriving DecidableEq, Repr

/-- The style of a span's page numbering (R7). -/
inductive SpanStyle where
  | arabic
  | roman
  | folio
  | plate
  | unnumbered
deriving DecidableEq, Repr

/-- The style of a label: a span's style, or BOARD (R10). -/
inductive LabelStyle where
  | arabic
  | roman
  | folio
  | plate
  | unnumbered
  | board
deriving DecidableEq, Repr

/-- A run of leaves that share one style of numbering (R7). -/
structure Span where
  first : Nat
  count : Nat
  style : SpanStyle
  start : Nat
deriving DecidableEq, Repr

/-- The printed designation of a side, less the side itself (R10). -/
structure Label where
  style : LabelStyle
  number : Nat
deriving DecidableEq, Repr

/-- A side of a leaf. -/
inductive Side where
  | recto
  | verso
deriving DecidableEq, Repr

/-- The capture state of a side (R13). -/
inductive CaptureState where
  | none
  | captured
  | flagged
  | withheld
  | skipped
deriving DecidableEq, Repr

/-- The account of one side, leaf or insert (R12, R21). -/
structure SideRecord where
  capture : CaptureState
  shots : Nat
  retakes : Nat
  dose : Nat
  lastRecord : Option Nat
deriving DecidableEq, Repr

/-- The handling override of a leaf (R11). -/
inductive Override where
  | auto
  | hand
deriving DecidableEq, Repr

/-- The account of one leaf (R11); a board lacks one of its sides (R12). -/
structure LeafRecord where
  override : Override
  handTurned : Bool
  turnFaulted : Bool
  hasInserts : Bool
  recto : Option SideRecord
  verso : Option SideRecord
deriving DecidableEq, Repr

/-- The class of a stop mark (section 1.5). -/
inductive MarkClass where
  | beforeTurn
  | afterCapture
deriving DecidableEq, Repr

/-- A stop mark (R18). -/
structure Mark where
  enabled : Bool
  cls : MarkClass
  first : Nat
  last : Nat
deriving DecidableEq, Repr

/-- The parent of an insert frame: the position that stood at its entry (R20). -/
inductive Parent where
  | opening (k : Nat) (half : Half)
  | insert (frame : Nat) (side : Nat)
deriving DecidableEq, Repr

/-- The account of one insert (R20). -/
structure InsertFrame where
  ordinal : Nat
  parent : Parent
  depth : Nat
  sides : Nat
  firstPool : Nat
deriving DecidableEq, Repr

/-- A position: an opening at level 0, an insert side at level 1 to 4 (R16, R22). -/
inductive Position where
  | opening (k : Nat)
  | insert (frame : Nat) (side : Nat)
deriving DecidableEq, Repr

/-- Names one side record of the volume (R31). -/
inductive SideRef where
  | leaf (leaf : Nat) (side : Side)
  | insert (frame : Nat) (side : Nat)
deriving DecidableEq, Repr

/-- All of VAU's state while a volume is open (R3). `pool` holds the side records handed out, in
order, so the number in use is its length (R21); `stack` holds the saved positions, the top first, so the
level is its length (R22). -/
structure Volume where
  shelfMark : List Byte
  job : Nat
  leafCount : Nat
  handling : HandlingClass
  sideCeiling : Nat
  volumeCeiling : Nat
  accumulator : Nat
  peak : Nat
  fired : Nat
  withheld : Nat
  turnsCompleted : Nat
  spans : List Span
  leaves : List LeafRecord
  marks : Four Mark
  hits : Four Bool
  frames : List InsertFrame
  pool : List SideRecord
  stack : List Position
  deferred : Option Nat
  position : Position
deriving DecidableEq, Repr

/-! ### CSQ: the cradle sequencer (chapters 3 and 4) -/

/-- The run states (section 3.2). -/
inductive RunState where
  | unhomed
  | homing
  | disarmed
  | armed
  | running
  | held
  | faulted
  | guarded
deriving DecidableEq, Repr

/-- The run scopes (section 3.2). -/
inductive Scope where
  | continuous
  | oneTurn
  | oneCapture
  | platenMove
deriving DecidableEq, Repr

/-- The turn phases, and NONE (R37, R48, R56). -/
inductive Phase where
  | none
  | platenUp
  | lift
  | grip
  | carry
  | release
  | returning
  | platenDown
  | settle
  | reverseCarry
  | awaitHand
deriving DecidableEq, Repr

/-- The fault kinds (R37). -/
inductive FaultKind where
  | gripFail
  | doubleLeaf
  | motionTimeout
  | aborted
  | guard
deriving DecidableEq, Repr

/-- The result of a turn (R55). -/
inductive TurnResult where
  | complete
  | fault (k : FaultKind)
deriving DecidableEq, Repr

/-- A set of hold reasons (section 4.1). -/
structure Reasons where
  step : Bool
  mark : Bool
  camera : Bool
  dose : Bool
  lamp : Bool
deriving DecidableEq, Repr

/-- The five hold points (R62). -/
inductive ResumePoint where
  | readyCheck
  | afterShot
  | afterPass
  | beforeTurn
  | afterSettle
deriving DecidableEq, Repr

/-- The hold reasons and resume point that a CAPTURE taken in HELD sets aside (R68). -/
structure SetAside where
  reasons : Reasons
  point : ResumePoint
deriving DecidableEq, Repr

/-- The step modes (R64). -/
inductive StepMode where
  | off
  | shot
  | opening
  | turn
deriving DecidableEq, Repr

/-- The direction of a turn (R45). -/
inductive Direction where
  | forward
  | backward
deriving DecidableEq, Repr

/-- Where the arm direction output points (R48): at rest, to a half, or to park (log 14). -/
inductive ArmDirection where
  | rest
  | toLeft
  | toRight
  | toPark
deriving DecidableEq, Repr

/-- The actuator outputs (R37). -/
structure Actuators where
  platenUp : Bool
  platenDown : Bool
  airKnife : Bool
  vacuum : Bool
  armRun : Bool
  armDirection : ArmDirection
deriving DecidableEq, Repr

/-- The turn in hand, from its entry to PLATEN_UP to its TURN record (R48, R55, R56). `reversal` is set
once a DOUBLE reading has turned it into a reversal (R51). -/
structure TurnJob where
  direction : Direction
  leaf : Nat
  fromOpening : Nat
  hand : Bool
  start : Nat
  reversal : Bool
deriving DecidableEq, Repr

/-- A step of the run that begins once the holding slot is empty (R44, R45, R127). -/
inductive Awaiting where
  | turn (direction : Direction)
  | endRecord
deriving DecidableEq, Repr

/-- CSQ's state (R37). -/
structure Csq where
  runState : RunState
  scope : Option Scope
  phase : Phase
  faultKind : Option FaultKind
  armCertain : Bool
  retries : Nat
  reasons : Reasons
  resumePoint : Option ResumePoint
  setAside : Option SetAside
  haltPending : Bool
  passOnce : Bool
  stepMode : StepMode
  unsettled : Bool
  phaseTimer : Option Timer
  settleTimer : Option Timer
  settleLimit : Option Timer
  settleStart : Nat
  settleRestarts : Nat
  actuators : Actuators
  turn : Option TurnJob
  awaiting : Option Awaiting
deriving DecidableEq, Repr

/-! ### GRD and LMN (section 4.5, R35, R36, R149) -/

/-- GRD's flags (R72); the zone state is the light curtain's confirmed level, kept by LMN. -/
structure Grd where
  latch : Bool
  readSeen : Bool
  interrupted : Bool
deriving DecidableEq, Repr

/-- The confirmed level of each switch-class input, `none` until its starting level is established
(R36), and the manual levels of the auxiliary outputs (R149). `true` is asserted, pressed, intruded or
ready. -/
structure Lmn where
  pedal : Option Bool
  lift : Option Bool
  grip : Option Bool
  carryEnd : Option Bool
  release : Option Bool
  park : Option Bool
  platenUp : Option Bool
  platenDown : Option Bool
  motionLeft : Option Bool
  motionRight : Option Bool
  curtain : Option Bool
  readyLeft : Option Bool
  readyRight : Option Bool
  lamps : Eight (Option Bool)
  auxManual : Four Bool
deriving DecidableEq, Repr

/-- LMN's debounce state (R35, log 10): the time to the next sample of the inputs, whose figure is the debounce
period; each input whose sample differed from its confirmed level and waits for its second sample, with that
level; and the inputs still to be sampled at this moment. -/
structure Sampling where
  timer : Timer
  waiting : List (SwitchInput × Bool)
  due : List SwitchInput
deriving DecidableEq, Repr

/-! ### ILC: illumination (chapter 5) -/

/-- A flash in progress (R81 to R83): the timer's figure is the effective on-time. -/
structure Flash where
  lit : Eight Bool
  drives : Eight Nat
  timer : Timer
deriving DecidableEq, Repr

/-- Preview light (R85, R86): the limit read at PREVIEW ON and what is left of it on the limit clock, and
the current period's timer, cut time (`none`: unlimited) and kind of expiry. -/
structure Preview where
  lit : Eight Bool
  drives : Eight Nat
  limit : Nat
  limitLeft : Nat
  timer : Timer
  cut : Option Nat
  cutExpiry : Bool
deriving DecidableEq, Repr

/-- The light mode (R80). -/
inductive Light where
  | dark
  | flash (f : Flash)
  | preview (p : Preview)
deriving DecidableEq, Repr

/-! ### SPU: shot plans and cameras (chapter 7) -/

/-- The withhold policy of a shot (R107). -/
inductive WithholdPolicy where
  | hold
  | proceed
deriving DecidableEq, Repr

/-- A shot of a plan, as taken (R107, R108). -/
structure Shot where
  cameras : Coverage
  drives : Eight Nat
  onTime : Nat
  delay : Nat
  tag : Nat
  policy : WithholdPolicy
deriving DecidableEq, Repr

/-- A shot plan (R108). -/
structure Plan where
  id : Nat
  shots : List Shot
deriving DecidableEq, Repr

/-- The shot step of the pass (section 7.2). `between` stands while no shot is in hand; `toBegin` while
a shot is due, which reads QUEUE_WAIT while the holding slot is occupied (R111). -/
inductive ShotStep where
  | between
  | toBegin
  | readyWait (timer : Timer)
  | flash (trigger : Option Timer)
  | grace (timer : Timer)
deriving DecidableEq, Repr

/-- The tally of one side in a pass (section 7.2). -/
structure Tally where
  before : Bool
  shot : Bool
  withheld : Bool
  fault : Bool
deriving DecidableEq, Repr

/-- What one camera has done in the shot in hand (R114 to R117). -/
structure CameraShot where
  triggered : Bool
  frame : Option Nat
  late : Bool
  noFrame : Bool
deriving DecidableEq, Repr

/-- What SPU has gathered for the record of the shot in hand (R113 to R117). -/
structure ShotInHand where
  lit : Eight Bool
  lampFault : Bool
  motion : Bool
  left : CameraShot
  right : CameraShot
  onTime : Nat
  doseLeft : Nat
  doseRight : Nat
  predicted : Option (Nat × Nat)
deriving DecidableEq, Repr

/-- The pass progress (section 7.2): `detour` is whether the pass is at level 1 to 4 (R110). -/
structure Pass where
  plan : Plan
  index : Nat
  step : ShotStep
  detour : Bool
  unflattened : Bool
  unsettled : Bool
  leftSide : SideRef
  rightSide : SideRef
  leftTally : Tally
  rightTally : Tally
  shot : ShotInHand
deriving DecidableEq, Repr

/-- A camera port, less its RDY level, which LMN keeps (R116). The TRIG output is asserted while its pulse
timer runs (R114). -/
structure Port where
  frames : Nat
  pending : Bool
  trig : Option Timer
deriving DecidableEq, Repr

/-- SPU's state (R108, R110, R116). -/
structure Spu where
  active : Option Plan
  staged : Option Plan
  pass : Option Pass
  left : Port
  right : Port
deriving DecidableEq, Repr

/-! ### RQ: records and the result queue (chapter 8) -/

/-- A side as a SHOT or DETOUR record names it (R32, R117, section 10.6). -/
inductive SideId where
  | absent
  | leaf (exposed : Bool) (leaf : Nat) (side : Side) (label : Label)
  | insert (frame : Nat) (side : Nat)
deriving DecidableEq, Repr

/-- The content of a SHOT record (R117). -/
structure ShotRecord where
  planId : Nat
  index : Nat
  tag : Nat
  level : Nat
  position : Position
  left : SideId
  right : SideId
  triggeredLeft : Bool
  triggeredRight : Bool
  frameLeft : Option Nat
  frameRight : Option Nat
  onTime : Nat
  doseLeft : Nat
  doseRight : Nat
  predicted : Option (Nat × Nat)
deriving DecidableEq, Repr

/-- The content of a TURN record (R55). -/
structure TurnRecord where
  direction : Direction
  leaf : Nat
  fromOpening : Nat
  toOpening : Nat
  result : TurnResult
  hand : Bool
  retries : Nat
  settleRestarts : Nat
  settleDuration : Nat
  turnDuration : Nat
deriving DecidableEq, Repr

/-- The content of a DETOUR record (R29). -/
structure DetourRecord where
  enter : Bool
  frame : InsertFrame
  deferred : Bool
  parentSide : SideId
  shelfMark : List Byte
deriving DecidableEq, Repr

/-- The content of an END record (R125). -/
structure EndRecord where
  shelfMark : List Byte
  job : Nat
  accumulator : Nat
  fired : Nat
  withheld : Nat
  turnsCompleted : Nat
deriving DecidableEq, Repr

/-- The four kinds of record (section 8.2). -/
inductive RecordBody where
  | shot (r : ShotRecord)
  | turn (r : TurnRecord)
  | detour (r : DetourRecord)
  | finish (r : EndRecord)
deriving DecidableEq, Repr

/-- A record of the result queue (R123); `flags` has the layout of section 10.6. -/
structure Record where
  number : Nat
  stamp : Nat
  flags : BitVec 16
  body : RecordBody
deriving DecidableEq, Repr

/-- The summary modes (R132). -/
inductive SummaryMode where
  | head
  | accumulated
deriving DecidableEq, Repr

/-- RQ's state (chapter 8), less its stored settings. -/
structure Rq where
  fifo : List Record
  holding : Option Record
  nextNumber : Nat
  mode : SummaryMode
  accumulated : BitVec 16
  staleTimer : Option Timer
deriving DecidableEq, Repr

/-! ### CTH: counters, time base and turn history (chapter 9) -/

/-- What a counter counts: NONE, the eleven events of R137, the four durations of R139. -/
inductive CounterEvent where
  | none
  | turnsCompleted
  | turnFaults
  | turnRetries
  | settleRestarts
  | shotsFired
  | shotsWithheld
  | framesLeft
  | framesRight
  | strayFrames
  | guardTrips
  | holdsEntered
  | running
  | held
  | queueWait
  | previewOn
deriving DecidableEq, Repr

/-- An activity counter (R136). -/
structure Counter where
  value : Nat
  event : CounterEvent
  edge : Bool
  threshold : Nat
  invert : Bool
  residue : Nat
deriving DecidableEq, Repr

/-- The scope tallies and which scopes are open (R136, R138). -/
structure Tallies where
  retries : Nat
  restarts : Nat
  fired : Nat
  withheld : Nat
  turnOpen : Bool
  settleOpen : Bool
  passOpen : Bool
deriving DecidableEq, Repr

/-- One record of the turn history (R141). -/
structure HistoryRecord where
  fromOpening : Nat
  toOpening : Nat
  leaf : Nat
  direction : Direction
  start : Nat
  finish : Nat
  result : TurnResult
deriving DecidableEq, Repr

/-- CTH's state (chapter 9); the time base is in µs. -/
structure Cth where
  timeBase : Nat
  a : Counter
  b : Counter
  tallies : Tallies
  last : Option HistoryRecord
  prior : Option HistoryRecord
  fault : Option HistoryRecord
  recording : Bool
deriving DecidableEq, Repr

/-! ### LIF and STO (chapter 10) -/

/-- The result codes (introduction 5.6). -/
inductive Result where
  | ok
  | deferred
  | busy
  | state
  | range
  | full
  | guard
  | length
  | unknown
deriving DecidableEq, Repr

/-- The receiver (R143): hunting, after a SYNC, or collecting the `len` bytes from TAG on and the two
CHECK bytes. -/
inductive Receiver where
  | hunting
  | awaitLen
  | collecting (len : Nat) (bytes : List Byte)
deriving DecidableEq, Repr

/-- A complete request in a receive slot (R144). -/
structure LinkRequest where
  tag : Byte
  kind : Byte
  body : List Byte
deriving DecidableEq, Repr

/-- A reply answered and not yet sent whole (R145). `fromSlot`: it answers the request in the older slot,
which it frees when sent; `resets`: it answers a RESET request, which takes effect when it is sent. -/
structure Reply where
  tag : Byte
  kind : Byte
  result : Result
  content : List Byte
  fromSlot : Bool
  resets : Bool
deriving DecidableEq, Repr

/-- The frame the transmitter is sending (R146). -/
structure Sending where
  reply : Bool
  bytes : List Byte
  timer : Timer
deriving DecidableEq, Repr

/-- The causes of a reset (R150). -/
inductive ResetCause where
  | power
  | pin
  | supply
  | request
deriving DecidableEq, Repr

/-- LIF's state (R143 to R150). -/
structure Lif where
  receiver : Receiver
  gap : Option Timer
  slots : List LinkRequest
  handled : Bool
  outbox : List Reply
  tx : Option Sending
  noticeDue : Bool
  dropSeen : Bool
  checkSeen : Bool
  dropSince : Bool
  checkSince : Bool
  drops : Nat
  checkErrors : Nat
  straps : BitVec 2
  latched : BitVec 32
  mask : BitVec 32
  cause : ResetCause
deriving DecidableEq, Repr

/-- A channel's calibration record (R78): lux, permille, ms. -/
structure Calibration where
  illuminance : Nat
  weight : Nat
  coverage : Coverage
  flashLimit : Nat
  enabled : Bool
deriving DecidableEq, Repr

/-- The turn timing settings (R61), in ms. -/
structure TurnTiming where
  platenUp : Nat
  lift : Nat
  grip : Nat
  carry : Nat
  release : Nat
  returning : Nat
  platenDown : Nat
  interval : Nat
  multiplier : Nat
deriving DecidableEq, Repr

/-- The source of an auxiliary output (R149). -/
inductive AuxSource where
  | manual
  | running
  | attention
  | guard
deriving DecidableEq, Repr

/-- The stored settings (section 10.5). -/
structure Settings where
  calibration : Eight Calibration
  timing : TurnTiming
  readyWait : Nat
  frameGrace : Nat
  debounce : Nat
  capacity : Nat
  staleInterval : Nat
  previewLimit : Nat
  guardEnable : Bool
  auxSources : Four AuxSource
deriving DecidableEq, Repr

/-- A save of settings in progress: the captured copies, and the 250 ms it may take (R152). -/
structure Save where
  captured : Settings
  timer : Timer
deriving DecidableEq, Repr

/-- STO's state (R151, R152): `stored` is `none` while the check value does not agree with the contents. -/
structure Sto where
  stored : Option Settings
  save : Option Save
  agreed : Bool
deriving DecidableEq, Repr

/-! ### The whole machine -/

/-- The state of the part, the commands waiting (first in, first out), and the counter that the free values
of Config are applied to (log 31). -/
structure State where
  volume : Option Volume
  csq : Csq
  grd : Grd
  lmn : Lmn
  sampling : Sampling
  light : Light
  spu : Spu
  rq : Rq
  cth : Cth
  lif : Lif
  settings : Settings
  sto : Sto
  pending : List Instr
  freeReads : Nat
deriving DecidableEq, Repr

/-- What stops the machine. The spec gives the part no fault that stops it, so there is none (log 33). -/
inductive Fault where
deriving DecidableEq, Repr

/-- What the model turns away. -/
inductive Refusal where
  /-- Raised by `exec` for a command that has no meaning yet; safe: nothing follows. No arm raises it. -/
  | notModelled (mnemonic : String)
deriving DecidableEq, Repr

/-! ### One update per block -/

def State.setVolume (v : Option Volume) (s : State) : State := { s with volume := v }
def State.modVolume (f : Volume → Volume) (s : State) : State := { s with volume := s.volume.map f }
def State.modCsq (f : Csq → Csq) (s : State) : State := { s with csq := f s.csq }
def State.modGrd (f : Grd → Grd) (s : State) : State := { s with grd := f s.grd }
def State.modLmn (f : Lmn → Lmn) (s : State) : State := { s with lmn := f s.lmn }
def State.modSampling (f : Sampling → Sampling) (s : State) : State := { s with sampling := f s.sampling }
def State.setLight (l : Light) (s : State) : State := { s with light := l }
def State.modSpu (f : Spu → Spu) (s : State) : State := { s with spu := f s.spu }
def State.modRq (f : Rq → Rq) (s : State) : State := { s with rq := f s.rq }
def State.modCth (f : Cth → Cth) (s : State) : State := { s with cth := f s.cth }
def State.modLif (f : Lif → Lif) (s : State) : State := { s with lif := f s.lif }
def State.modSettings (f : Settings → Settings) (s : State) : State :=
  { s with settings := f s.settings }
def State.modSto (f : Sto → Sto) (s : State) : State := { s with sto := f s.sto }
def State.setPending (q : List Instr) (s : State) : State := { s with pending := q }
def State.setFreeReads (n : Nat) (s : State) : State := { s with freeReads := n }

/-! ### Reset -/

/-- The factory default of a channel's calibration, of the coverage given (section 5.1). -/
def factoryCalibration (coverage : Coverage) : Calibration :=
  { illuminance := 20000, weight := 1000, coverage := coverage, flashLimit := 2000, enabled := true }

/-- The factory defaults of the stored settings (section 10.5 and the rules it names). -/
def factorySettings : Settings :=
  { calibration :=
      ⟨factoryCalibration .left, factoryCalibration .left, factoryCalibration .left,
       factoryCalibration .left, factoryCalibration .right, factoryCalibration .right,
       factoryCalibration .right, factoryCalibration .right⟩
    timing :=
      { platenUp := 1500, lift := 800, grip := 600, carry := 2500, release := 400, returning := 2500,
        platenDown := 1500, interval := 400, multiplier := 8 }
    readyWait := 2000
    frameGrace := 50
    debounce := 5
    capacity := 32
    staleInterval := 5
    previewLimit := 120
    guardEnable := true
    auxSources := Four.fill .manual }

/-- No hold reason. -/
def Reasons.empty : Reasons := ⟨false, false, false, false, false⟩

/-- Every actuator output off, the arm direction at rest (R37). -/
def Actuators.off : Actuators := ⟨false, false, false, false, false, .rest⟩

/-- CSQ after reset (R37). -/
def Csq.reset : Csq :=
  { runState := .unhomed, scope := none, phase := .none, faultKind := none, armCertain := false,
    retries := 0, reasons := Reasons.empty, resumePoint := none, setAside := none,
    haltPending := false, passOnce := false, stepMode := .off, unsettled := false,
    phaseTimer := none, settleTimer := none, settleLimit := none, settleStart := 0,
    settleRestarts := 0, actuators := Actuators.off, turn := none, awaiting := none }

/-- LMN after reset: no confirmed level (R36), manual levels low (R149). -/
def Lmn.reset : Lmn :=
  { pedal := none, lift := none, grip := none, carryEnd := none, release := none, park := none,
    platenUp := none, platenDown := none, motionLeft := none, motionRight := none, curtain := none,
    readyLeft := none, readyRight := none, lamps := Eight.fill none, auxManual := Four.fill false }

/-- LMN's debounce state after reset, for a debounce period in ms: the first sample falls one period later
(R36, log 10). -/
def Sampling.reset (period : Nat) : Sampling :=
  { timer := { figure := period * 1000, left := period * 1000 }, waiting := [], due := [] }

/-- A camera port after reset (R116). -/
def Port.reset : Port := { frames := 0, pending := false, trig := none }

/-- SPU after reset (R122). -/
def Spu.reset : Spu :=
  { active := none, staged := none, pass := none, left := Port.reset, right := Port.reset }

/-- RQ after reset (R134). -/
def Rq.reset : Rq :=
  { fifo := [], holding := none, nextNumber := 1, mode := .head, accumulated := 0#16,
    staleTimer := none }

/-- A counter after reset (R136). -/
def Counter.reset : Counter :=
  { value := 0, event := .none, edge := false, threshold := 0, invert := false, residue := 0 }

/-- CTH after reset (R135, R136, R141). -/
def Cth.reset : Cth :=
  { timeBase := 0, a := Counter.reset, b := Counter.reset,
    tallies := { retries := 0, restarts := 0, fired := 0, withheld := 0, turnOpen := false,
                 settleOpen := false, passOpen := false },
    last := none, prior := none, fault := none, recording := true }

/-- The mask after reset: all 19 latched conditions, no level condition (R148). -/
def resetMask : BitVec 32 := 0x0007FFFF#32

/-- The machine right after a power-on reset with a store never written and both strap pins low (log 12,
log 13). RESET_SEEN and SETTINGS_DEFAULTED are set (R147, R151), and the notice they make due is the first
frame the transmitter sends (R150): its bytes are those of `frameBytes` for KIND 0xFF, TAG 0 and the
condition set 3, and at 115200 baud its 10 bytes take 869 µs (log 7). -/
def State.reset : State :=
  { volume := none
    csq := Csq.reset
    grd := { latch := false, readSeen := false, interrupted := false }
    lmn := Lmn.reset
    sampling := Sampling.reset 5
    light := .dark
    spu := Spu.reset
    rq := Rq.reset
    cth := Cth.reset
    lif :=
      { receiver := .hunting, gap := none, slots := [], handled := false, outbox := [],
        tx := some
          { reply := false
            bytes := [0xA5#8, 0x06#8, 0x00#8, 0xFF#8, 0x03#8, 0x00#8, 0x00#8, 0x00#8, 0x91#8, 0x98#8]
            timer := { figure := 869, left := 869 } },
        noticeDue := false, dropSeen := false, checkSeen := false, dropSince := false,
        checkSince := false, drops := 0, checkErrors := 0, straps := 0#2, latched := 0x00000003#32,
        mask := resetMask, cause := .power }
    settings := factorySettings
    sto := { stored := none, save := none, agreed := false }
    pending := []
    freeReads := 0 }

end Sys2Proof.Machine
end

