-- ==== Sys2Proof/Machine/Operands.lean ====
section
/-! DEFINITION. The operands of the requests: the code bytes of R153 read as the enumerations of the owning
rules, the clamps of the settings, and the fields of a plan as it is taken. -/

namespace Sys2Proof.Machine

/-! ### Code bytes (R153): `none` for a value with no code -/

def handlingOf (b : Byte) : Option HandlingClass :=
  match b.toNat with
  | 0 => some .general
  | 1 => some .fragile
  | 2 => some .brittle
  | _ => none

def styleOf (b : Byte) : Option SpanStyle :=
  match b.toNat with
  | 0 => some .arabic
  | 1 => some .roman
  | 2 => some .folio
  | 3 => some .plate
  | 4 => some .unnumbered
  | _ => none

/-- An override action of MARK LEAF (R14): the inner `none` is KEEP. -/
def overrideActionOf (b : Byte) : Option (Option Override) :=
  match b.toNat with
  | 0 => some none
  | 1 => some (some .auto)
  | 2 => some (some .hand)
  | _ => none

/-- A side action of MARK LEAF (R14): the inner `none` is KEEP. -/
def sideActionOf (b : Byte) : Option (Option CaptureState) :=
  match b.toNat with
  | 0 => some none
  | 1 => some (some .skipped)
  | 2 => some (some .none)
  | _ => none

def markClassOf (b : Byte) : Option MarkClass :=
  match b.toNat with
  | 0 => some .beforeTurn
  | 1 => some .afterCapture
  | _ => none

def halfOf (b : Byte) : Option Half :=
  match b.toNat with
  | 0 => some .left
  | 1 => some .right
  | _ => none

def directionOf (b : Byte) : Option Direction :=
  match b.toNat with
  | 0 => some .forward
  | 1 => some .backward
  | _ => none

def stepModeOf (b : Byte) : Option StepMode :=
  match b.toNat with
  | 0 => some .off
  | 1 => some .shot
  | 2 => some .opening
  | 3 => some .turn
  | _ => none

def coverageOf (b : Byte) : Option Coverage :=
  match b.toNat with
  | 0 => some .left
  | 1 => some .right
  | 2 => some .both
  | _ => none

def policyOf (b : Byte) : Option WithholdPolicy :=
  match b.toNat with
  | 0 => some .hold
  | 1 => some .proceed
  | _ => none

def summaryModeOf (b : Byte) : Option SummaryMode :=
  match b.toNat with
  | 0 => some .head
  | 1 => some .accumulated
  | _ => none

def counterOf (b : Byte) : Option CounterName :=
  match b.toNat with
  | 0 => some .a
  | 1 => some .b
  | _ => none

def counterEventOf (b : Byte) : Option CounterEvent :=
  match b.toNat with
  | 0 => some .none
  | 1 => some .turnsCompleted
  | 2 => some .turnFaults
  | 3 => some .turnRetries
  | 4 => some .settleRestarts
  | 5 => some .shotsFired
  | 6 => some .shotsWithheld
  | 7 => some .framesLeft
  | 8 => some .framesRight
  | 9 => some .strayFrames
  | 10 => some .guardTrips
  | 11 => some .holdsEntered
  | 12 => some .running
  | 13 => some .held
  | 14 => some .queueWait
  | 15 => some .previewOn
  | _ => none

def auxSourceOf (b : Byte) : Option AuxSource :=
  match b.toNat with
  | 0 => some .manual
  | 1 => some .running
  | 2 => some .attention
  | 3 => some .guard
  | _ => none

/-- A byte that is no or off at 0 and has no other code but 1 (R153: calibration enabled, history
enable). -/
def strictBoolOf (b : Byte) : Option Bool :=
  match b.toNat with
  | 0 => some false
  | 1 => some true
  | _ => none

/-- A byte that is no or off at 0 and yes or on otherwise (R153). -/
def looseBoolOf (b : Byte) : Bool := b != 0

/-- Bit 0 of a flags byte (R153: SKIP_FIRST, PASS, REPLACE). -/
def flagBit (b : Byte) : Bool := b.getLsbD 0

/-- A mark or output number of 0 to 3. -/
def index4 (b : Byte) : Option (Fin 4) :=
  if h : b.toNat < 4 then some ⟨b.toNat, h⟩ else none

/-- A channel number of 0 to 7. -/
def index8 (b : Byte) : Option (Fin 8) :=
  if h : b.toNat < 8 then some ⟨b.toNat, h⟩ else none

/-! ### Clamps (introduction 5.5) -/

/-- A value clamped to the nearer limit of its range. -/
def clamp (lo hi n : Nat) : Nat := max lo (min hi n)

/-- SET TURN TIMING's values as taken (R61). -/
def TurnTiming.taken (t : TimingFields) : TurnTiming :=
  { platenUp := clamp 10 5000 t.platenUp.toNat
    lift := clamp 10 5000 t.lift.toNat
    grip := clamp 10 5000 t.grip.toNat
    carry := clamp 10 5000 t.carry.toNat
    release := clamp 10 5000 t.release.toNat
    returning := clamp 10 5000 t.returning.toNat
    platenDown := clamp 10 5000 t.platenDown.toNat
    interval := clamp 50 5000 t.interval.toNat
    multiplier := clamp 2 20 t.multiplier.toNat }

/-- Drive levels as taken: each above 1000 is clamped to 1000 (R85, R108). -/
def drivesTaken (d : Eight (BitVec 16)) : Eight Nat := d.map fun x => min 1000 x.toNat

/-- One shot of LOAD PLAN as taken (R108): `none` where its camera set or policy has no code. -/
def shotTaken (x : ShotFields) : Option Shot :=
  match coverageOf x.cameras, policyOf x.policy with
  | some cameras, some policy =>
    let onTime := clamp 100 2000000 x.onTime.toNat
    some { cameras := cameras, drives := drivesTaken x.drives, onTime := onTime,
           delay := min x.delay.toNat onTime, tag := x.tag.toNat, policy := policy }
  | _, _ => none

/-- The shots of LOAD PLAN as taken: `none` where one of them has a field out of range (R108 check 2). -/
def shotsTaken : List ShotFields → Option (List Shot)
  | [] => some []
  | x :: xs =>
    match shotTaken x, shotsTaken xs with
    | some y, some ys => some (y :: ys)
    | _, _ => none

/-- A shelf mark R2 takes: 1 to 40 printable characters, the first and the last not a space. -/
def shelfMarkOk (mark : List Byte) : Bool :=
  decide (1 ≤ mark.length) && decide (mark.length ≤ 40) &&
    mark.all (fun c => decide (0x20 ≤ c.toNat) && decide (c.toNat ≤ 0x7E)) &&
    mark.head? != some 0x20 && mark.getLast? != some 0x20

/-- A ceiling field of OPEN VOLUME: 0 selects the default (R2). -/
def ceilingOr (default field : Nat) : Nat := if field = 0 then default else field

end Sys2Proof.Machine
end

