-- ==== Sys2Proof/Machine/Flags.lean ====
section
/-! DEFINITION. The flags: the condition set and its mask (R147, R148, section 10.6), the status flags of a
SHOT record (R117), the fault flags of a side (R118), and the outputs that follow from them. -/

namespace Sys2Proof.Machine

/-! ### Conditions -/

/-- The 19 latched and 3 level conditions (R147). -/
inductive Cond where
  | resetSeen
  | settingsDefaulted
  | homeFail
  | turnFault
  | guard
  | markHit
  | handTurnWait
  | cameraNotReady
  | doseWithheld
  | doseCeiling
  | previewLimit
  | planTaken
  | settleLimit
  | lampFault
  | strayFrame
  | queueStale
  | volumeEnd
  | counterOverflow
  | linkError
  | queueNonempty
  | queueHolding
  | heldNow
deriving DecidableEq, Repr

/-- The bit of a condition in the condition set (section 10.6). -/
def condBit : Cond → Nat
  | .resetSeen => 0
  | .settingsDefaulted => 1
  | .homeFail => 2
  | .turnFault => 3
  | .guard => 4
  | .markHit => 5
  | .handTurnWait => 6
  | .cameraNotReady => 7
  | .doseWithheld => 8
  | .doseCeiling => 9
  | .previewLimit => 10
  | .planTaken => 11
  | .settleLimit => 12
  | .lampFault => 13
  | .strayFrame => 14
  | .queueStale => 15
  | .volumeEnd => 16
  | .counterOverflow => 17
  | .linkError => 18
  | .queueNonempty => 24
  | .queueHolding => 25
  | .heldNow => 26

/-- A condition alone, in the layout of the condition set. -/
def condWord (c : Cond) : BitVec 32 := 1#32 <<< condBit c

/-- The positions of the 19 latched conditions. -/
def latchedPositions : BitVec 32 := 0x0007FFFF#32

/-- The positions of all 22 conditions; the others are unassigned (section 10.6). -/
def assignedPositions : BitVec 32 := 0x0707FFFF#32

/-- A condition's bit when `b`, nothing otherwise. -/
def condIf (b : Bool) (c : Cond) : BitVec 32 := if b then condWord c else 0#32

/-- The level conditions that stand: QUEUE_NONEMPTY and QUEUE_HOLDING (R134), HELD_NOW (R147). -/
def levelConditions (s : State) : BitVec 32 :=
  condIf (!s.rq.fifo.isEmpty) .queueNonempty ||| condIf s.rq.holding.isSome .queueHolding |||
    condIf (s.csq.runState == .held) .heldNow

/-- The condition set: the latched conditions and the level conditions that stand (R147). -/
def conditionSet (s : State) : BitVec 32 := s.lif.latched ||| levelConditions s

/-- ATTN: at least one condition stands whose enable is set (R148). -/
def attn (s : State) : Bool := conditionSet s &&& s.lif.mask != 0#32

/-- Whether the latched condition stands. -/
def latchedNow (c : Cond) (s : State) : Bool := s.lif.latched.getLsbD (condBit c)

/-- Whether the mask enables the condition. -/
def enabledNow (c : Cond) (s : State) : Bool := s.lif.mask.getLsbD (condBit c)

/-- The enabled set gains a member: a notice falls due (R146). -/
def gain (c : Cond) (s : State) : State :=
  if enabledNow c s then s.modLif fun l => { l with noticeDue := true } else s

/-- A latched condition is set by its event; setting it while it is set changes nothing (R146, R147). -/
def setCond (c : Cond) (s : State) : State :=
  if latchedNow c s then s
  else gain c (s.modLif fun l => { l with latched := l.latched ||| condWord c })

/-- A level condition rises (R134, R146). -/
def riseLevel (c : Cond) (s : State) : State := gain c s

/-! ### Auxiliary outputs (R149) -/

/-- The level of an auxiliary output under its source (R149). -/
def auxLevel (s : State) (source : AuxSource) (manual : Bool) : Bool :=
  match source with
  | .manual => manual
  | .running => s.csq.runState == .running
  | .attention => attn s
  | .guard => s.grd.latch

/-- The four auxiliary outputs (R149). -/
def auxOutputs (s : State) : Four Bool := s.settings.auxSources.zip (auxLevel s) s.lmn.auxManual

/-! ### Status flags of a record (section 10.6) -/

/-- The flags of a SHOT record. -/
inductive Flag where
  | withheld
  | aborted
  | guard
  | noFrameLeft
  | noFrameRight
  | lateLeft
  | lateRight
  | lampFault
  | unsettled
  | motion
  | unflattened
  | retake
deriving DecidableEq, Repr

/-- The bit of a flag in the two-byte status flags. -/
def flagIndex : Flag → Nat
  | .withheld => 0
  | .aborted => 1
  | .guard => 2
  | .noFrameLeft => 3
  | .noFrameRight => 4
  | .lateLeft => 5
  | .lateRight => 6
  | .lampFault => 7
  | .unsettled => 8
  | .motion => 9
  | .unflattened => 10
  | .retake => 11

/-- A flag's bit when `b`, nothing otherwise. -/
def flagIf (b : Bool) (f : Flag) : BitVec 16 := if b then 1#16 <<< flagIndex f else 0#16

/-- Whether a record carries the flag. -/
def hasFlag (flags : BitVec 16) (f : Flag) : Bool := flags.getLsbD (flagIndex f)

/-- How a shot came to its end (R117, R120). -/
inductive ShotEnd where
  | completed
  | aborted
  | guard
deriving DecidableEq, Repr

/-- Whether the pass's shot uses the left camera: never at level 1 to 4 (R30, R110). -/
def usesLeft (detour : Bool) (cameras : Coverage) : Bool := !detour && cameras != .right

/-- Whether the pass's shot uses the right camera; a BOTH shot is narrowed to it (R30, R110). -/
def usesRight (cameras : Coverage) : Bool := cameras != .left

/-- Whether a shot is skipped: camera set LEFT at level 1 to 4 (R30, R110). -/
def skipped (detour : Bool) (cameras : Coverage) : Bool := detour && cameras == .left

/-- The status flags of the SHOT record of the shot in hand (R117). The camera flags of the left camera do
not appear at level 1 to 4, where that camera is not used (R32). -/
def shotFlags (p : Pass) (cameras : Coverage) (ended : ShotEnd) : BitVec 16 :=
  flagIf p.shot.predicted.isSome .withheld |||
  flagIf (ended == .aborted) .aborted |||
  flagIf (ended == .guard) .guard |||
  flagIf (usesLeft p.detour cameras && p.shot.left.noFrame) .noFrameLeft |||
  flagIf (usesRight cameras && p.shot.right.noFrame) .noFrameRight |||
  flagIf (usesLeft p.detour cameras && p.shot.left.late) .lateLeft |||
  flagIf (usesRight cameras && p.shot.right.late) .lateRight |||
  flagIf p.shot.lampFault .lampFault |||
  flagIf p.unsettled .unsettled |||
  flagIf p.shot.motion .motion |||
  flagIf p.unflattened .unflattened |||
  flagIf ((usesLeft p.detour cameras && p.leftTally.before) ||
    (usesRight cameras && p.rightTally.before)) .retake

/-- The fault flags of either side: ABORTED, GUARD, LAMP_FAULT, UNSETTLED, UNFLATTENED, MOTION (R118). -/
def commonFault (flags : BitVec 16) : Bool :=
  hasFlag flags .aborted || hasFlag flags .guard || hasFlag flags .lampFault ||
    hasFlag flags .unsettled || hasFlag flags .unflattened || hasFlag flags .motion

/-- Whether a record carries a fault flag for the side over the given half (R118). -/
def sideFault (flags : BitVec 16) : Half → Bool
  | .left => commonFault flags || hasFlag flags .noFrameLeft || hasFlag flags .lateLeft
  | .right => commonFault flags || hasFlag flags .noFrameRight || hasFlag flags .lateRight

end Sys2Proof.Machine
end

