-- ==== Sys2Proof/Machine/Ops.lean ====
section
/-! DEFINITION. The operations every block shares: counting events and time (chapter 9), moving the run state
and entering a hold (chapters 3 and 4), handing a record to the queue (chapter 8), and answering a request
and sending frames (chapter 10). -/

namespace Sys2Proof.Machine

/-! ### Saturating and wrapping counts -/

/-- One more, stopping at the maximum. -/
def satSucc (max n : Nat) : Nat := if n < max then n + 1 else n

/-- One more, from the largest of `2^bits` values back to 0. -/
def wrapSucc (bits n : Nat) : Nat := (n + 1) % 2 ^ bits

/-! ### Counting events (R137, R138, R140) -/

/-- A counter raised by `n`: a value that passes 4,294,967,295 wraps, and the wrap is reported (R140). -/
def bumpBy (n : Nat) (c : Counter) : Counter × Bool :=
  ({ c with value := (c.value + n) % 2 ^ 32 }, decide (2 ^ 32 ≤ c.value + n))

/-- A counter raised by 1 where `b` holds. -/
def bumpIf (b : Bool) (c : Counter) : Counter × Bool := if b then bumpBy 1 c else (c, false)

/-- Both counters put through `f`; a wrap of either sets COUNTER_OVERFLOW (R140). -/
def updateCounters (f : Counter → Counter × Bool) (s : State) : State :=
  let s' := s.modCth fun c => { c with a := (f c.a).1, b := (f c.b).1 }
  if (f s.cth.a).2 || (f s.cth.b).2 then setCond .counterOverflow s' else s'

/-- The scoped events (R137). -/
def isScoped : CounterEvent → Bool
  | .turnRetries => true
  | .settleRestarts => true
  | .shotsFired => true
  | .shotsWithheld => true
  | _ => false

/-- A scoped event adds to the tally of its scope while that is open, to at most 65,535 (R136, R138). -/
def tallyEvent (e : CounterEvent) (t : Tallies) : Tallies :=
  match e with
  | .turnRetries => if t.turnOpen then { t with retries := satSucc 65535 t.retries } else t
  | .settleRestarts =>
    if t.turnOpen || t.settleOpen then { t with restarts := satSucc 65535 t.restarts } else t
  | .shotsFired => if t.passOpen then { t with fired := satSucc 65535 t.fired } else t
  | .shotsWithheld => if t.passOpen then { t with withheld := satSucc 65535 t.withheld } else t
  | _ => t

/-- An event reported to CTH: each counter whose event it is adds 1, unless the event is scoped and the
counter's threshold is 1 or more (R137); a scoped event adds to its tally (R138). -/
def event (e : CounterEvent) (s : State) : State :=
  updateCounters (fun c => bumpIf (c.event == e && (!isScoped e || c.threshold == 0)) c)
    (s.modCth fun c => { c with tallies := tallyEvent e c.tallies })

/-- The judgement of a closing scope (R138): a counter of the event and of a threshold of 1 or more adds 1
where the tally meets the threshold, or, inverted, where it does not. -/
def judge (e : CounterEvent) (tally : Nat) (s : State) : State :=
  updateCounters (fun c => bumpIf (c.event == e && decide (1 ≤ c.threshold) &&
    (decide (c.threshold ≤ tally) != c.invert)) c) s

/-- A turn's scope opens: the tallies of retries and restarts begin at 0 (R138). -/
def openTurnScope (s : State) : State :=
  s.modCth fun c => { c with tallies := { c.tallies with retries := 0, restarts := 0, turnOpen := true } }

/-- A turn's scope closes: retries and settle restarts are judged (R138). -/
def closeTurnScope (s : State) : State :=
  (judge .settleRestarts s.cth.tallies.restarts (judge .turnRetries s.cth.tallies.retries s)).modCth
    fun c => { c with tallies := { c.tallies with retries := 0, restarts := 0, turnOpen := false } }

/-- The settle scope of a PLATEN DOWN opens (R138). -/
def openSettleScope (s : State) : State :=
  s.modCth fun c => { c with tallies := { c.tallies with restarts := 0, settleOpen := true } }

/-- The settle scope of a PLATEN DOWN closes, if it is open (R138). -/
def closeSettleScope (s : State) : State :=
  if s.cth.tallies.settleOpen then
    (judge .settleRestarts s.cth.tallies.restarts s).modCth
      fun c => { c with tallies := { c.tallies with restarts := 0, settleOpen := false } }
  else s

/-- A pass scope opens (R110, R138). -/
def openPassScope (s : State) : State :=
  s.modCth fun c => { c with tallies := { c.tallies with fired := 0, withheld := 0, passOpen := true } }

/-- A pass scope closes: shots fired and withheld are judged (R119, R120, R138). -/
def closePassScope (s : State) : State :=
  (judge .shotsWithheld s.cth.tallies.withheld (judge .shotsFired s.cth.tallies.fired s)).modCth
    fun c => { c with tallies := { c.tallies with fired := 0, withheld := 0, passOpen := false } }

/-! ### Durations and the passing of time (R135, R139) -/

/-- A step of the run waits on the holding slot: a shot in QUEUE_WAIT, a turn before PLATEN_UP, or the END
record (R111, R127, R139). -/
def queueWaiting (s : State) : Bool :=
  s.csq.runState == .running && s.rq.holding.isSome &&
    (s.csq.awaiting.isSome || s.spu.pass.any fun p => p.step == .toBegin)

/-- ILC is in PREVIEW (R80). -/
def previewing (s : State) : Bool :=
  match s.light with
  | .preview _ => true
  | _ => false

/-- Whether the selector is of the duration class (R139). -/
def isDuration : CounterEvent → Bool
  | .running => true
  | .held => true
  | .queueWait => true
  | .previewOn => true
  | _ => false

/-- Whether the condition of a duration-class selector stands (R139). -/
def stands (e : CounterEvent) (s : State) : Bool :=
  match e with
  | .running => s.csq.runState == .running
  | .held => s.csq.runState == .held
  | .queueWait => queueWaiting s
  | .previewOn => previewing s
  | _ => false

/-- Whether a counter is counting milliseconds now: duration class, edge clear, and the condition stands
or, inverted, does not (R139). -/
def countsTime (s : State) (c : Counter) : Bool :=
  isDuration c.event && !c.edge && (stands c.event s != c.invert)

/-- `n` µs added to a counter that counts time: each 1000 µs of residue is a millisecond (R139). -/
def countTime (s : State) (n : Nat) (c : Counter) : Counter × Bool :=
  if countsTime s c then
    bumpBy ((c.residue + n) / 1000) { c with residue := (c.residue + n) % 1000 }
  else (c, false)

/-- A duration condition enters (`entry`) or exits: a counter with edge set adds 1 at each entry, or, with
invert also set, at each exit (R139). -/
def edge (e : CounterEvent) (entry : Bool) (s : State) : State :=
  updateCounters (fun c => bumpIf (c.event == e && c.edge && (entry != c.invert)) c) s

/-- A timer after `n` µs. -/
def runTimer (n : Nat) (t : Timer) : Timer := { t with left := t.left - n }

/-- A timer started for a figure in µs. -/
def startTimer (figure : Nat) : Timer := { figure := figure, left := figure }

/-- The time a timer has run, in µs. -/
def ranFor (t : Timer) : Nat := t.figure - t.left

/-- A timer started for a figure in ms. -/
def startMs (figure : Nat) : Timer := startTimer (figure * 1000)

def elapseLight (n : Nat) : Light → Light
  | .dark => .dark
  | .flash f => .flash { f with timer := runTimer n f.timer }
  | .preview p => .preview { p with timer := runTimer n p.timer, limitLeft := p.limitLeft - n }

def elapseStep (n : Nat) : ShotStep → ShotStep
  | .between => .between
  | .toBegin => .toBegin
  | .readyWait t => .readyWait (runTimer n t)
  | .flash t => .flash (t.map (runTimer n))
  | .grace t => .grace (runTimer n t)

def elapsePort (n : Nat) (p : Port) : Port := { p with trig := p.trig.map (runTimer n) }

/-- `n` µs pass: the time base rises, wrapping at 48 bits (R135), the duration counters count (R139), and
every running timer runs on, to no less than nothing left. -/
def elapse (n : Nat) (s : State) : State :=
  let s := updateCounters (countTime s n) s
  { s with
    csq := { s.csq with
      phaseTimer := s.csq.phaseTimer.map (runTimer n)
      settleTimer := s.csq.settleTimer.map (runTimer n)
      settleLimit := s.csq.settleLimit.map (runTimer n) }
    sampling := { s.sampling with timer := runTimer n s.sampling.timer }
    light := elapseLight n s.light
    spu := { s.spu with
      pass := s.spu.pass.map fun p => { p with step := elapseStep n p.step }
      left := elapsePort n s.spu.left
      right := elapsePort n s.spu.right }
    rq := { s.rq with staleTimer := s.rq.staleTimer.map (runTimer n) }
    cth := { s.cth with timeBase := (s.cth.timeBase + n) % 2 ^ 48 }
    lif := { s.lif with
      gap := s.lif.gap.map (runTimer n)
      tx := s.lif.tx.map fun t => { t with timer := runTimer n t.timer } }
    sto := { s.sto with
      save := s.sto.save.map fun v => { v with timer := runTimer n v.timer } } }

/-- The time base at `since` to now, in µs, counted modulo 2^48 (R135). -/
def sinceTime (since : Nat) (s : State) : Nat := (s.cth.timeBase + 2 ^ 48 - since) % 2 ^ 48

/-! ### The run state, holds and the end of a run -/

/-- The run state changes: RUNNING and HELD are exited and entered (R139), and HELD_NOW rises with HELD
(R147). -/
def setRunState (r : RunState) (s : State) : State :=
  if s.csq.runState == r then s
  else
    let s1 :=
      match s.csq.runState with
      | .running => edge .running false s
      | .held => edge .held false s
      | _ => s
    let s2 := s1.modCsq fun c => { c with runState := r }
    match r with
    | .running => edge .running true s2
    | .held => riseLevel .heldNow (edge .held true s2)
    | _ => s2

/-- The run holds at a hold point with its reasons (R62). -/
def enterHeld (reasons : Reasons) (point : ResumePoint) (s : State) : State :=
  event .holdsEntered <| (setRunState .held s).modCsq fun c =>
    { c with phase := .none, reasons := reasons, resumePoint := some point }

/-- A run ends and the run state becomes ARMED (R38, R63). -/
def endRun (s : State) : State :=
  (setRunState .armed s).modCsq fun c =>
    { c with scope := none, phase := .none, reasons := Reasons.empty, resumePoint := none,
             setAside := none, haltPending := false, passOnce := false, awaiting := none }

/-- A run begins: its scope, and RUNNING (R38). -/
def beginRun (scope : Scope) (s : State) : State :=
  (setRunState .running s).modCsq fun c => { c with scope := some scope }

/-- The zone state: INTRUDED until the curtain's starting level is established (R36, R72). -/
def zoneIntruded (s : State) : Bool := s.lmn.curtain.getD true

/-- The check "the light curtain must be confirmed clear": it passes with guard enable off (R72). -/
def zoneClear (s : State) : Bool := !s.settings.guardEnable || !zoneIntruded s

/-- A capture pass is suspended: HELD at READY_CHECK or AFTER_SHOT (R62). -/
def passSuspended (s : State) : Bool :=
  s.csq.runState == .held &&
    (s.csq.resumePoint == some .readyCheck || s.csq.resumePoint == some .afterShot)

/-- A save of settings is in progress (R152). -/
def saving (s : State) : Bool := s.sto.save.isSome

/-! ### The result queue -/

/-- The stale timer is restarted for the stale interval; an interval of 0 leaves it stopped (R133). -/
def restartStale (s : State) : State :=
  s.modRq fun q =>
    { q with staleTimer :=
        if s.settings.staleInterval = 0 then none
        else some (startTimer (s.settings.staleInterval * 1000000)) }

/-- A record reaches the head: its flags are added to the accumulated summary (R132). -/
def reachHead (r : Record) (s : State) : State :=
  s.modRq fun q => { q with accumulated := q.accumulated ||| r.flags }

/-- A record is placed at the tail of the FIFO, or in the holding slot if the FIFO is full (R126); entering
an empty FIFO it reaches the head and starts the stale timer (R132, R133). -/
def placeRecord (r : Record) (s : State) : State :=
  if s.rq.fifo.length < s.settings.capacity then
    let s' := s.modRq fun q => { q with fifo := q.fifo ++ [r] }
    if s.rq.fifo.isEmpty then riseLevel .queueNonempty (restartStale (reachHead r s')) else s'
  else riseLevel .queueHolding (s.modRq fun q => { q with holding := some r })

/-- A record is handed over: it is given its number and time stamp and is placed (R123, R126). -/
def handOver (flags : BitVec 16) (body : RecordBody) (s : State) : State :=
  placeRecord { number := s.rq.nextNumber, stamp := s.cth.timeBase, flags := flags, body := body }
    (s.modRq fun q => { q with nextNumber := wrapSucc 32 q.nextNumber })

/-! ### Answering and sending (R144 to R146) -/

/-- The code of a result (section 10.6). -/
def resultCode : Result → Byte
  | .ok => 0
  | .deferred => 1
  | .busy => 2
  | .state => 3
  | .range => 4
  | .full => 5
  | .guard => 6
  | .length => 7
  | .unknown => 8

/-- The link-status byte: bit 0 a drop seen, bit 1 a check error seen (section 10.6). -/
def linkStatus (l : Lif) : Byte :=
  (if l.dropSeen then 1#8 else 0#8) ||| (if l.checkSeen then 2#8 else 0#8)

/-- The rate the strap pins select, in baud (R143). -/
def strapRate (straps : BitVec 2) : Nat :=
  match straps.toNat with
  | 0 => 115200
  | 1 => 230400
  | 2 => 460800
  | _ => 921600

/-- The time a frame takes on the line, in µs rounded up: ten bits a byte at the strap rate (R143, log 7). -/
def lineTime (straps : BitVec 2) (bytes : Nat) : Nat :=
  (bytes * 10 * 1000000 + strapRate straps - 1) / strapRate straps

/-- The BODY of a reply: its result code, the link-status byte, and its content (R145). -/
def replyBody (r : Reply) (l : Lif) : List Byte := resultCode r.result :: linkStatus l :: r.content

/-- The transmitter takes up the frame: a reply's link-status byte is formed here, and what is seen from
here on is for the next reply (R145, log 6). -/
def sendFrame (isReply : Bool) (bytes : List Byte) (l : Lif) : Lif :=
  { l with
    tx := some { reply := isReply, bytes := bytes,
                 timer := startTimer (lineTime l.straps bytes.length) }
    dropSince := if isReply then false else l.dropSince
    checkSince := if isReply then false else l.checkSince }

/-- A free transmitter sends the reply that waits, or else the notice that is due (R146). -/
def pump (s : State) : State :=
  match s.lif.tx with
  | some _ => s
  | none =>
    match s.lif.outbox with
    | r :: _ => s.modLif (sendFrame true (frameBytes r.tag r.kind (replyBody r s.lif)))
    | [] =>
      if s.lif.noticeDue then
        s.modLif fun l =>
          { sendFrame false (frameBytes 0 0xFF (leBytes 4 (conditionSet s).toNat)) l with
            noticeDue := false }
      else s

/-- The close of every event: the wait on the holding slot is seen to enter or exit (R139), and a free
transmitter takes up what waits (R146). -/
def finish (before after : State) : State :=
  pump <|
    if queueWaiting before == queueWaiting after then after
    else edge .queueWait (queueWaiting after) after

/-- The outcome of an event whose effect on the state is `after`. -/
def conclude (before after : State) : Host.Outcome State Fault Refusal := .next (finish before after)

/-- What an owner answers to a request: the result, the content of an OK reply, and its effect. -/
structure Answer where
  result : Result
  content : List Byte
  state : State

/-- A refused request: the result alone, and nothing changes (R153). -/
def refuse (r : Result) (s : State) : Answer := { result := r, content := [], state := s }

/-- A taken request. -/
def accept (content : List Byte) (s : State) : Answer := { result := .ok, content := content, state := s }

/-- Whether the older slot holds a request not yet handled that reads as `d`: then this is its handling
(R145, log 5). -/
def claims (d : Decoded) (l : Lif) : Bool :=
  match l.slots with
  | r :: _ => !l.handled && decodeRequest r.kind r.body == d
  | [] => false

/-- The TAG of a reply: that of the request in the slot it answers (R145); 0 for a request given as a
command with no frame (log 5). -/
def replyTag (d : Decoded) (l : Lif) : Byte :=
  if claims d l then (l.slots.head?.map (·.tag)).getD 0 else 0

/-- A reply joins the replies to be sent; the request it answers is handled (R145). -/
def addReply (d : Decoded) (kind : Byte) (result : Result) (content : List Byte) (resets : Bool)
    (l : Lif) : Lif :=
  { l with
    outbox := l.outbox ++ [{ tag := replyTag d l, kind := kind, result := result, content := content,
                             fromSlot := claims d l, resets := resets }]
    handled := l.handled || claims d l }

/-- The handling of a request: the owner's answer becomes the reply, of KIND the request's plus 0x80 (R145);
a reply that is not OK carries no content (R153). -/
def respond (c : Instr) (s : State) (a : Answer) : Host.Outcome State Fault Refusal :=
  conclude s <| a.state.modLif <|
    addReply (.request c) (requestKind c + 0x80#8) a.result a.content (c == .reset)

/-- A reply is being sent: what is marked for the link-status byte now is for the next reply (R145, log 6). -/
def sendingReply (l : Lif) : Bool := l.tx.any (·.reply)

end Sys2Proof.Machine
end

