-- ==== Sys2Proof/Machine/Vau.lean ====
section
/-! DEFINITION. The volume accounting unit's own operations: labels (R10), side records (R12, R21), the mapping
of the platen halves (R16, R31), turns' questions and updates (R16, R17), stop marks (R19), detours (R20 to
R28) and dose posting (R97, R103). -/

namespace Sys2Proof.Machine

/-! ### A new volume (R3) -/

/-- A side record as it is set up (R12, R21). -/
def SideRecord.blank : SideRecord :=
  { capture := .none, shots := 0, retakes := 0, dose := 0, lastRecord := none }

/-- A leaf record of a text leaf after OPEN VOLUME (R3). -/
def LeafRecord.blank : LeafRecord :=
  { override := .auto, handTurned := false, turnFaulted := false, hasInserts := false,
    recto := some SideRecord.blank, verso := some SideRecord.blank }

/-- The leaf table of a volume of `n` text leaves: the front board lacks its recto and the back board its
verso (R12). -/
def newLeaves (n : Nat) : List LeafRecord :=
  { LeafRecord.blank with recto := none } :: List.replicate n LeafRecord.blank ++
    [{ LeafRecord.blank with verso := none }]

/-- A stop mark in its cleared form (section 1.5). -/
def Mark.cleared : Mark := { enabled := false, cls := .beforeTurn, first := 0, last := 0 }

/-- VAU's state for a volume just opened (R3). -/
def newVolume (mark : List Byte) (job leafCount : Nat) (handling : HandlingClass)
    (sideCeiling volumeCeiling : Nat) : Volume :=
  { shelfMark := mark, job := job, leafCount := leafCount, handling := handling,
    sideCeiling := sideCeiling, volumeCeiling := volumeCeiling, accumulator := 0, peak := 0,
    fired := 0, withheld := 0, turnsCompleted := 0, spans := [], leaves := newLeaves leafCount,
    marks := Four.fill Mark.cleared, hits := Four.fill false, frames := [], pool := [], stack := [],
    deferred := none, position := .opening 0 }

/-! ### Spans and labels -/

/-- The last leaf a span covers, plus 1 (R7). -/
def spanEnd (p : Span) : Nat := p.first + p.count

/-- Whether a span covers the leaf (R7). -/
def covers (p : Span) (leaf : Nat) : Bool := decide (p.first ≤ leaf) && decide (leaf < spanEnd p)

/-- Whether two spans cover a common leaf (R7, R8). -/
def overlaps (p q : Span) : Bool := decide (p.first < spanEnd q) && decide (q.first < spanEnd p)

/-- The last number of a span (R8). -/
def lastNumber (p : Span) : Nat :=
  match p.style with
  | .arabic => p.start + 2 * (p.count - 1) + 1
  | .roman => p.start + 2 * (p.count - 1) + 1
  | .folio => p.start + p.count - 1
  | .plate => p.start + p.count - 1
  | .unnumbered => p.start + p.count - 1

/-- A span placed in the list by its first leaf (R7, R8). -/
def insertSpan (p : Span) : List Span → List Span
  | [] => [p]
  | q :: qs => if p.first < q.first then p :: q :: qs else q :: insertSpan p qs

/-- The label style of a span's style (R10). -/
def labelStyle : SpanStyle → LabelStyle
  | .arabic => .arabic
  | .roman => .roman
  | .folio => .folio
  | .plate => .plate
  | .unnumbered => .unnumbered

/-- The number of a side at distance `j` from its span's first leaf (R10). -/
def labelNumber (p : Span) (j : Nat) (side : Side) : Nat :=
  match p.style, side with
  | .arabic, .recto => p.start + 2 * j
  | .arabic, .verso => p.start + 2 * j + 1
  | .roman, .recto => p.start + 2 * j
  | .roman, .verso => p.start + 2 * j + 1
  | .folio, _ => p.start + j
  | .plate, _ => p.start + j
  | .unnumbered, _ => p.start + j

/-- The label of a side, derived from the span list as it stands (R10). -/
def labelOf (v : Volume) (leaf : Nat) (side : Side) : Label :=
  if leaf = 0 ∨ leaf = v.leafCount + 1 then { style := .board, number := 0 }
  else
    match v.spans.find? (covers · leaf) with
    | some p => { style := labelStyle p.style, number := labelNumber p (leaf - p.first) side }
    | none => { style := .unnumbered, number := 0 }

/-! ### Position and mapping -/

/-- The level of the position: the depth of the detour stack (R22). -/
def level (v : Volume) : Nat := v.stack.length

/-- The level with or without a volume: 0 with none. -/
def levelNow (s : State) : Nat := (s.volume.map level).getD 0

/-- The opening a position names; 0 for an insert side, which no bottom entry is (R22). -/
def openingOf : Position → Nat
  | .opening k => k
  | .insert _ _ => 0

/-- The opening at level 0, or the underlying opening during a detour (R22). -/
def underlying (v : Volume) : Nat :=
  match v.stack.getLast? with
  | some p => openingOf p
  | none => openingOf v.position

/-- The side record behind the left half: the verso of leaf k, or of leaf k₀ during a detour (R16, R31). -/
def leftSide (v : Volume) : SideRef := .leaf (underlying v) .verso

/-- The side record behind the right half: the recto of leaf k + 1, or the current insert side (R16, R31). -/
def rightSide (v : Volume) : SideRef :=
  match v.position with
  | .opening k => .leaf (k + 1) .recto
  | .insert f i => .insert f i

/-- The insert frame of an ordinal (R20). -/
def frameOf (v : Volume) (ordinal : Nat) : Option InsertFrame := v.frames.find? (·.ordinal == ordinal)

/-- The pool index of an insert side (R21). -/
def poolIndex (v : Volume) (frame side : Nat) : Option Nat := (frameOf v frame).map (·.firstPool + side)

/-! ### Side records -/

/-- The side of a leaf record. -/
def LeafRecord.side (l : LeafRecord) : Side → Option SideRecord
  | .recto => l.recto
  | .verso => l.verso

/-- A leaf record with a side, if present, changed. -/
def LeafRecord.modSide (l : LeafRecord) (side : Side) (f : SideRecord → SideRecord) : LeafRecord :=
  match side with
  | .recto => { l with recto := l.recto.map f }
  | .verso => { l with verso := l.verso.map f }

/-- The side record named, if it is present. -/
def sideAt (v : Volume) : SideRef → Option SideRecord
  | .leaf n side => v.leaves[n]?.bind (·.side side)
  | .insert f i => (poolIndex v f i).bind (v.pool[·]?)

/-- The volume with one leaf record changed. -/
def modLeaf (n : Nat) (f : LeafRecord → LeafRecord) (v : Volume) : Volume :=
  { v with leaves := v.leaves.modify n f }

/-- The volume with one side record changed. -/
def modSide (r : SideRef) (f : SideRecord → SideRecord) (v : Volume) : Volume :=
  match r with
  | .leaf n side => modLeaf n (fun l => l.modSide side f) v
  | .insert k i =>
    match poolIndex v k i with
    | some j => { v with pool := v.pool.modify j f }
    | none => v

/-- The dose accumulator of a side; 0 for a side that is not present (log 32). -/
def doseAt (v : Volume) (r : SideRef) : Nat := ((sideAt v r).map (·.dose)).getD 0

/-- Doses posted to the two sides of a mapping, to the volume, and into the peak (R97, R103). -/
def postDose (left right : SideRef) (dl dr : Nat) (v : Volume) : Volume :=
  let v1 := modSide left (fun r => { r with dose := r.dose + dl }) v
  let v2 := modSide right (fun r => { r with dose := r.dose + dr }) v1
  { v2 with
    accumulator := v.accumulator + (dl + dr)
    peak := max v.peak (max (doseAt v2 left) (doseAt v2 right)) }

/-! ### Turns -/

/-- The leaf a turn would carry from level 0, or `none`: outside the volume (R17). -/
def leafToCarry (v : Volume) (d : Direction) : Option Nat :=
  match d with
  | .forward => if underlying v < v.leafCount then some (underlying v + 1) else none
  | .backward => if 1 ≤ underlying v then some (underlying v) else none

/-- Whether the turn of the leaf must be made by hand (R17). -/
def mustTurnByHand (v : Volume) (leaf : Nat) : Bool :=
  v.handling == .brittle || (v.leaves[leaf]?.map (·.override)) == some .hand

/-- The opening a turn leads to (R16). -/
def turnedOpening (d : Direction) (k : Nat) : Nat :=
  match d with
  | .forward => k + 1
  | .backward => k - 1

/-- A turn moves the position and marks the leaf carried as turned by hand or not (R11, R16, R53, R56). -/
def moveByTurn (d : Direction) (leaf : Nat) (hand : Bool) (v : Volume) : Volume :=
  modLeaf leaf (fun l => { l with handTurned := hand })
    { v with position := .opening (turnedOpening d (underlying v)) }

/-- The retry limit of the handling class (R1, R50). -/
def retryLimit : HandlingClass → Nat
  | .general => 3
  | .fragile => 1
  | .brittle => 0

/-! ### Stop marks (R19) -/

/-- Whether a mark matches in an evaluation of a class that names leaves `a` and `b`. -/
def markMatches (cls : MarkClass) (a b : Nat) (m : Mark) : Bool :=
  m.enabled && m.cls == cls &&
    ((decide (m.first ≤ a) && decide (a ≤ m.last)) || (decide (m.first ≤ b) && decide (b ≤ m.last)))

/-- The hit set of a BEFORE_TURN evaluation of the leaf that the turn will carry. -/
def beforeTurnHits (v : Volume) (leaf : Nat) : Four Bool := v.marks.map (markMatches .beforeTurn leaf leaf)

/-- The hit set of an AFTER_CAPTURE evaluation at opening k: leaves k and k + 1. -/
def afterCaptureHits (v : Volume) (k : Nat) : Four Bool :=
  v.marks.map (markMatches .afterCapture k (k + 1))

/-! ### Detours (chapter 2) -/

/-- The insert pool records a volume has free (R21). -/
def poolFree (v : Volume) : Nat := 512 - v.pool.length

/-- The frame an entry creates: its ordinal, depth and pool records (R20, R21). -/
def newFrame (v : Volume) (parent : Parent) (sides : Nat) : InsertFrame :=
  { ordinal := v.frames.length + 1, parent := parent, depth := v.stack.length + 1, sides := sides,
    firstPool := v.pool.length }

/-- An entry carried out: the position is pushed, the frame is created with its pool records, and the
position becomes its side 0 (R25, R28). -/
def pushFrame (parent : Parent) (sides : Nat) (v : Volume) : Volume :=
  { v with
    stack := v.position :: v.stack
    frames := v.frames ++ [newFrame v parent sides]
    pool := v.pool ++ List.replicate sides SideRecord.blank
    position := .insert (v.frames.length + 1) 0 }

/-- The parent of an entry at the current position: the opening and the half, or the insert side (R20,
R25). -/
def parentHere (v : Volume) (half : Half) : Parent :=
  match v.position with
  | .opening k => .opening k half
  | .insert f i => .insert f i

/-- The leaf and side an opening's half shows (R29). -/
def halfSide (k : Nat) : Half → Nat × Side
  | .left => (k, .verso)
  | .right => (k + 1, .recto)

/-- HAS_INSERTS on the leaf that carries the found-at side, at level 0 only (R25). -/
def markInserts (half : Half) (v : Volume) : Volume :=
  match v.position with
  | .opening k => modLeaf (halfSide k half).1 (fun l => { l with hasInserts := true }) v
  | .insert _ _ => v

/-- The detour stack popped: the position becomes the saved one (R28). -/
def popFrame (v : Volume) : Volume :=
  match v.stack with
  | p :: rest => { v with stack := rest, position := p }
  | [] => v

/-- The parent side of a DETOUR record at depth 1, with its label as the record is built (R29). -/
def parentSideId (v : Volume) (f : InsertFrame) : SideId :=
  match f.parent with
  | .opening k half =>
    let (leaf, side) := halfSide k half
    .leaf false leaf side (labelOf v leaf side)
  | .insert _ _ => .absent

/-- A DETOUR record handed over (R25, R28, R29). -/
def handOverDetour (enter deferred : Bool) (f : InsertFrame) (s : State) : State :=
  match s.volume with
  | some v =>
    handOver 0 (.detour { enter := enter, frame := f, deferred := deferred,
                          parentSide := parentSideId v f, shelfMark := v.shelfMark }) s
  | none => s

/-- The current insert side index plus 1, or `none` at level 0 or at the frame's last side (R27). -/
def advanced (v : Volume) : Option Position :=
  match v.position with
  | .opening _ => none
  | .insert f i =>
    match frameOf v f with
    | some fr => if i + 1 < fr.sides then some (.insert f (i + 1)) else none
    | none => none

end Sys2Proof.Machine
end

