-- ==== Sys2Proof/Machine/Encode.lean ====
section
/-! DEFINITION. The byte layouts of records and reply contents (section 10.6, R153). An item that the owning
rule gives only in some states keeps its place, after one byte that is 1 when its value follows and 0 when
its place holds zeros (log 15). -/

namespace Sys2Proof.Machine

/-- A yes or no, set or clear, on or off item. -/
def bit (b : Bool) : List Byte := [if b then 1#8 else 0#8]

/-- A number in `k` bytes. -/
abbrev num (k n : Nat) : List Byte := leBytes k n

/-- `k` zeros. -/
def zeros (k : Nat) : List Byte := List.replicate k 0#8

/-- An item of `k` bytes that may be absent. -/
def item (k : Nat) : Option (List Byte) → List Byte
  | some bytes => 1#8 :: bytes
  | none => 0#8 :: zeros k

/-- A text: a length byte followed by that many characters. -/
def text (t : List Byte) : List Byte := u8 t.length :: t

/-- Eight yes or no members as one byte, bit 0 the first. -/
def set8 (v : Eight Bool) : List Byte :=
  [u8 ((v.toList.zipIdx.map fun (b, i) => if b then 2 ^ i else 0).sum)]

/-- Four yes or no members as one byte, bit 0 the first. -/
def set4 (v : Four Bool) : List Byte :=
  [u8 ((v.toList.zipIdx.map fun (b, i) => if b then 2 ^ i else 0).sum)]

/-- Hold reasons as one byte: STEP, MARK, CAMERA, DOSE, LAMP from bit 0. -/
def encReasons (r : Reasons) : List Byte :=
  set8 ⟨r.step, r.mark, r.camera, r.dose, r.lamp, false, false, false⟩

/-! ### Enumerations -/

def handlingCode : HandlingClass → Nat
  | .general => 0
  | .fragile => 1
  | .brittle => 2

def styleCode : SpanStyle → Nat
  | .arabic => 0
  | .roman => 1
  | .folio => 2
  | .plate => 3
  | .unnumbered => 4

def labelCode : LabelStyle → Nat
  | .arabic => 0
  | .roman => 1
  | .folio => 2
  | .plate => 3
  | .unnumbered => 4
  | .board => 5

def sideCode : Side → Nat
  | .recto => 0
  | .verso => 1

def halfCode : Half → Nat
  | .left => 0
  | .right => 1

def coverageCode : Coverage → Nat
  | .left => 0
  | .right => 1
  | .both => 2

def captureCode : CaptureState → Nat
  | .none => 0
  | .captured => 1
  | .flagged => 2
  | .withheld => 3
  | .skipped => 4

def overrideCode : Override → Nat
  | .auto => 0
  | .hand => 1

def markClassCode : MarkClass → Nat
  | .beforeTurn => 0
  | .afterCapture => 1

def directionCode : Direction → Nat
  | .forward => 0
  | .backward => 1

def faultCode : FaultKind → Nat
  | .gripFail => 1
  | .doubleLeaf => 2
  | .motionTimeout => 3
  | .aborted => 4
  | .guard => 5

def turnResultCode : TurnResult → Nat
  | .complete => 0
  | .fault k => faultCode k

def runStateCode : RunState → Nat
  | .unhomed => 0
  | .homing => 1
  | .disarmed => 2
  | .armed => 3
  | .running => 4
  | .held => 5
  | .faulted => 6
  | .guarded => 7

/-- A field that may be none codes none as 0 and its values from 1 (R153). -/
def scopeCode : Option Scope → Nat
  | none => 0
  | some .continuous => 1
  | some .oneTurn => 2
  | some .oneCapture => 3
  | some .platenMove => 4

def phaseCode : Phase → Nat
  | .none => 0
  | .platenUp => 1
  | .lift => 2
  | .grip => 3
  | .carry => 4
  | .release => 5
  | .returning => 6
  | .platenDown => 7
  | .settle => 8
  | .reverseCarry => 9
  | .awaitHand => 10

def resumeCode : Option ResumePoint → Nat
  | none => 0
  | some .readyCheck => 1
  | some .afterShot => 2
  | some .afterPass => 3
  | some .beforeTurn => 4
  | some .afterSettle => 5

def counterEventCode : CounterEvent → Nat
  | .none => 0
  | .turnsCompleted => 1
  | .turnFaults => 2
  | .turnRetries => 3
  | .settleRestarts => 4
  | .shotsFired => 5
  | .shotsWithheld => 6
  | .framesLeft => 7
  | .framesRight => 8
  | .strayFrames => 9
  | .guardTrips => 10
  | .holdsEntered => 11
  | .running => 12
  | .held => 13
  | .queueWait => 14
  | .previewOn => 15

def causeCode : ResetCause → Nat
  | .power => 0
  | .pin => 1
  | .supply => 2
  | .request => 3

def modeCode : SummaryMode → Nat
  | .head => 0
  | .accumulated => 1

/-! ### Shared items -/

/-- A label: a style byte and a number. -/
def encLabel (l : Label) : List Byte := num 1 (labelCode l.style) ++ num 2 l.number

/-- A position: level, opening or frame ordinal, insert side index. -/
def encPositionAt (level : Nat) : Position → List Byte
  | .opening k => num 1 level ++ num 2 k ++ num 1 0
  | .insert f i => num 1 level ++ num 2 f ++ num 1 i

/-- The current position of a volume. -/
def encPosition (v : Volume) : List Byte := encPositionAt (level v) v.position

/-- A side identity of a record: 7 bytes. -/
def encSideId : SideId → List Byte
  | .absent => zeros 7
  | .leaf exposed n side label =>
    num 1 (if exposed then 2 else 1) ++ num 2 n ++ num 1 (sideCode side) ++ encLabel label
  | .insert f i => num 1 3 ++ num 2 f ++ num 1 i ++ zeros 3

/-- A frame's parent as in the DETOUR record: 10 bytes. -/
def encParent (parentSide : SideId) : Parent → List Byte
  | .opening k half => num 2 k ++ num 1 (halfCode half) ++ encSideId parentSide
  | .insert f i => num 2 f ++ num 1 i ++ zeros 7

/-- A side record's fields: capture state, shots taken, retakes, dose, last record number. -/
def encSideFields (r : SideRecord) : List Byte :=
  num 1 (captureCode r.capture) ++ num 1 r.shots ++ num 1 r.retakes ++ num 4 r.dose ++
    item 4 (r.lastRecord.map (num 4))

/-- A leaf's side in QUERY LEAF: a mark that it has no record, or its label and fields (R15). -/
def encLeafSide (v : Volume) (n : Nat) (side : Side) (r : Option SideRecord) : List Byte :=
  item 15 (r.map fun r => encLabel (labelOf v n side) ++ encSideFields r)

/-- A leaf record in the form of QUERY LEAF's reply (R15). -/
def encLeaf (v : Volume) (n : Nat) (l : LeafRecord) : List Byte :=
  num 2 n ++ num 1 (overrideCode l.override) ++ bit l.handTurned ++ bit l.turnFaulted ++
    bit l.hasInserts ++ encLeafSide v n .recto l.recto ++ encLeafSide v n .verso l.verso

/-- A stop mark's fields. -/
def encMark (m : Mark) : List Byte :=
  bit m.enabled ++ num 1 (markClassCode m.cls) ++ num 2 m.first ++ num 2 m.last

/-- A span's fields (R9). -/
def encSpan (p : Span) : List Byte :=
  num 2 p.first ++ num 2 p.count ++ num 1 (styleCode p.style) ++ num 2 p.start

/-- A calibration record, as in the SET CALIBRATION body. -/
def encCalibration (c : Calibration) : List Byte :=
  num 4 c.illuminance ++ num 2 c.weight ++ num 1 (coverageCode c.coverage) ++ num 2 c.flashLimit ++
    bit c.enabled

/-- Eight drive levels. -/
def encDrives (d : Eight Nat) : List Byte := (d.toList.map (num 2)).flatten

/-- A shot of a plan, as in the LOAD PLAN body. -/
def encShot (x : Shot) : List Byte :=
  num 1 (coverageCode x.cameras) ++ encDrives x.drives ++ num 4 x.onTime ++ num 4 x.delay ++
    num 1 x.tag ++ num 1 (match x.policy with | .hold => 0 | .proceed => 1)

/-- A plan, as in the LOAD PLAN body from its plan id. -/
def encPlan (p : Plan) : List Byte :=
  num 2 p.id ++ num 1 p.shots.length ++ (p.shots.map encShot).flatten

/-- The turn timing: nine values. -/
def encTiming (t : TurnTiming) : List Byte :=
  num 2 t.platenUp ++ num 2 t.lift ++ num 2 t.grip ++ num 2 t.carry ++ num 2 t.release ++
    num 2 t.returning ++ num 2 t.platenDown ++ num 2 t.interval ++ num 1 t.multiplier

/-- A counter's value and selector, as in the SET COUNTER body from its value. -/
def encCounter (c : Counter) : List Byte :=
  num 4 c.value ++ num 1 (counterEventCode c.event) ++ bit c.edge ++ num 1 c.threshold ++ bit c.invert

/-- A history record's fields in the order of R141: 20 bytes. -/
def encHistory (h : HistoryRecord) : List Byte :=
  num 2 h.fromOpening ++ num 2 h.toOpening ++ num 2 h.leaf ++ num 1 (directionCode h.direction) ++
    num 6 h.start ++ num 6 h.finish ++ num 1 (turnResultCode h.result)

/-- The reference to a side record in READ DOSE: leaf (0) or insert side (1), the leaf or frame ordinal, and
the side or insert side index (log 16). -/
def encSideRef : SideRef → List Byte
  | .leaf n side => num 1 0 ++ num 2 n ++ num 1 (sideCode side)
  | .insert f i => num 1 1 ++ num 2 f ++ num 1 i

/-! ### Records -/

/-- A turn duration in its 4-byte field; one of 2^32 ms or more is a free value (log 18). -/
def turnDurationField (ms : Nat) : Nat :=
  if ms < 2 ^ 32 then ms else (Config.overlongDuration ms).toNat

def encShotRecord (r : ShotRecord) : List Byte :=
  num 2 r.planId ++ num 1 r.index ++ num 1 r.tag ++ encPositionAt r.level r.position ++
    encSideId r.left ++ encSideId r.right ++
    set8 ⟨r.triggeredLeft, r.triggeredRight, false, false, false, false, false, false⟩ ++
    set8 ⟨r.frameLeft.isSome, r.frameRight.isSome, r.predicted.isSome, false, false, false, false,
      false⟩ ++
    num 4 (r.frameLeft.getD 0) ++ num 4 (r.frameRight.getD 0) ++ num 4 r.onTime ++
    num 4 r.doseLeft ++ num 4 r.doseRight ++
    (match r.predicted with | some (l, rr) => num 6 l ++ num 6 rr | none => [])

def encTurnRecord (r : TurnRecord) : List Byte :=
  num 1 (directionCode r.direction) ++ num 2 r.leaf ++ num 2 r.fromOpening ++ num 2 r.toOpening ++
    num 1 (turnResultCode r.result) ++ bit r.hand ++ num 1 r.retries ++ num 2 r.settleRestarts ++
    num 4 r.settleDuration ++ num 4 (turnDurationField r.turnDuration)

def encDetourRecord (r : DetourRecord) : List Byte :=
  num 1 (if r.enter then 0 else 1) ++ num 1 r.frame.ordinal ++ num 1 r.frame.depth ++
    num 1 r.frame.sides ++ bit r.deferred ++ encParent r.parentSide r.frame.parent ++ text r.shelfMark

def encEndRecord (r : EndRecord) : List Byte :=
  text r.shelfMark ++ num 4 r.job ++ num 6 r.accumulator ++ num 4 r.fired ++ num 4 r.withheld ++
    num 4 r.turnsCompleted

def recordKind : RecordBody → Nat
  | .shot _ => 1
  | .turn _ => 2
  | .detour _ => 3
  | .finish _ => 4

def encRecordBody : RecordBody → List Byte
  | .shot r => encShotRecord r
  | .turn r => encTurnRecord r
  | .detour r => encDetourRecord r
  | .finish r => encEndRecord r

/-- A record: its 13-byte common header and its body (section 10.6). -/
def encRecord (r : Record) : List Byte :=
  num 1 (recordKind r.body) ++ num 4 r.number ++ num 6 r.stamp ++ num 2 r.flags.toNat ++
    encRecordBody r.body

/-- The content of a TAKE RESULT or PEEK RESULT reply: the FIFO count after the request, holding-slot
occupancy, and the record, if any (section 10.6). -/
def encResult (r : Option Record) (after : State) : List Byte :=
  num 1 after.rq.fifo.length ++ bit after.rq.holding.isSome ++
    (match r with | some r => 1#8 :: encRecord r | none => [0#8])

/-! ### Replies that report a whole block -/

/-- QUERY VOLUME (R6). With no volume open the shelf mark keeps the place of its length byte alone, and at level 0
the underlying opening is two zero bytes with no presence byte of its own (log 37). -/
def encVolume (o : Option Volume) : List Byte :=
  let part (k : Nat) (f : Volume → List Byte) : List Byte := item k (o.map f)
  bit o.isSome ++ part 1 (fun v => text v.shelfMark) ++ part 4 (fun v => num 4 v.job) ++
    part 2 (fun v => num 2 v.leafCount) ++ part 1 (fun v => num 1 (handlingCode v.handling)) ++
    part 4 (fun v => num 4 v.sideCeiling) ++ part 6 (fun v => num 6 v.volumeCeiling) ++
    part 6 (fun v => num 6 v.accumulator) ++ part 4 (fun v => num 4 v.turnsCompleted) ++
    part 6 (fun v => encPosition v ++ num 2 (if level v = 0 then 0 else underlying v)) ++
    part 1 (fun v => num 1 v.spans.length) ++ part 1 (fun v => num 1 v.frames.length) ++
    part 2 (fun v => num 2 v.pool.length) ++ part 1 (fun v => bit v.deferred.isSome)

/-- QUERY INSERT (R34). The label in its parent's side identity is derived as the reply is formed (log 39). -/
def encInsert (v : Volume) (f : InsertFrame) (r : SideRecord) : List Byte :=
  num 1 f.ordinal ++ encParent (parentSideId v f) f.parent ++ num 1 f.depth ++ num 1 f.sides ++
    num 2 f.firstPool ++ encSideFields r

/-- READ DOSE (R105): dose and remaining amount of the side behind LEFT and then of that behind RIGHT (log 41). -/
def encDose (o : Option Volume) : List Byte :=
  let part (k : Nat) (f : Volume → List Byte) : List Byte := item k (o.map f)
  bit o.isSome ++ part 4 (fun v => num 4 v.sideCeiling) ++ part 6 (fun v => num 6 v.volumeCeiling) ++
    part 6 (fun v => num 6 v.accumulator) ++
    part 6 (fun v => num 6 (v.volumeCeiling - v.accumulator)) ++ part 4 (fun v => num 4 v.peak) ++
    part 4 (fun v => num 4 v.fired) ++ part 4 (fun v => num 4 v.withheld) ++
    part 4 (fun v => encSideRef (leftSide v)) ++ part 4 (fun v => encSideRef (rightSide v)) ++
    part 4 (fun v => num 4 (doseAt v (leftSide v))) ++
    part 4 (fun v => num 4 (v.sideCeiling - doseAt v (leftSide v))) ++
    part 4 (fun v => num 4 (doseAt v (rightSide v))) ++
    part 4 (fun v => num 4 (v.sideCeiling - doseAt v (rightSide v)))

/-- READ GUARD (R76). -/
def encGuard (s : State) : List Byte :=
  bit s.grd.latch ++ bit s.grd.readSeen ++ bit (zoneIntruded s) ++ bit s.grd.interrupted ++
    bit s.settings.guardEnable

def lightCode : Light → Nat
  | .dark => 0
  | .flash _ => 1
  | .preview _ => 2

/-- The channels lit now, each with its drive level (R80). -/
def litNow : Light → Eight Bool
  | .dark => Eight.fill false
  | .flash f => f.lit
  | .preview p => p.lit

/-- The drive level in force of each channel: 0 when dark (R80). -/
def drivesNow : Light → Eight Nat
  | .dark => Eight.fill 0
  | .flash f => f.lit.zip (fun b d => if b then d else 0) f.drives
  | .preview p => p.lit.zip (fun b d => if b then d else 0) p.drives

/-- Whether a channel's lamp fault input is confirmed asserted (R36, R84). -/
def lampFaulted (s : State) : Eight Bool := s.lmn.lamps.map (·.getD false)

/-- READ LIGHTS (R91): lit, drive level and lamp fault of one channel after another (log 41); a lamp fault is 1 for
asserted and 0 for not asserted (log 40). -/
def encLights (s : State) : List Byte :=
  let flash (f : Flash → List Byte) : List Byte :=
    item 4 (match s.light with | .flash x => some (f x) | _ => none)
  let preview (k : Nat) (f : Preview → Option (List Byte)) : List Byte :=
    item k (match s.light with | .preview p => f p | _ => none)
  num 1 (lightCode s.light) ++
    ((litNow s.light).zip3 (fun lit drive lamp => bit lit ++ num 2 drive ++ bit lamp)
      (drivesNow s.light) (lampFaulted s)).toList.flatten ++
    flash (fun f => num 4 f.timer.figure) ++ flash (fun f => num 4 (ranFor f.timer)) ++
    preview 4 (fun p => some (num 4 (p.limit - p.limitLeft))) ++
    preview 6 (fun p => p.cut.map (num 6)) ++ preview 4 (fun p => some (num 4 p.timer.left)) ++
    preview 1 (fun p => some (num 1 (if p.cutExpiry then 0 else 1))) ++
    num 2 s.settings.previewLimit

/-- The shot step as reported: a shot that is due reads QUEUE_WAIT while it waits on the holding slot
(R111). -/
def stepCode (s : State) : Nat :=
  match s.spu.pass with
  | none => 0
  | some p =>
    match p.step with
    | .between => 0
    | .toBegin => if queueWaiting s then 1 else 0
    | .readyWait _ => 2
    | .flash _ => 3
    | .grace _ => 4

/-- Whether a camera's RDY input is confirmed ready (R36, R112). -/
def cameraReady (h : Half) (s : State) : Bool :=
  match h with
  | .left => s.lmn.readyLeft.getD false
  | .right => s.lmn.readyRight.getD false

/-- READ CAMERAS (R116): frame count, RDY level and pending of the left port and then of the right (log 41); a RDY
level is 1 for ready and 0 for not ready (log 40). -/
def encCameras (s : State) : List Byte :=
  num 4 s.spu.left.frames ++ bit (cameraReady .left s) ++ bit s.spu.left.pending ++
    num 4 s.spu.right.frames ++ bit (cameraReady .right s) ++ bit s.spu.right.pending ++
    num 1 (stepCode s) ++ item 2 (s.spu.pass.map fun p => num 2 p.plan.id) ++
    item 1 (s.spu.pass.map fun p => num 1 p.index)

/-- READ QUEUE (R129). -/
def encQueue (s : State) : List Byte :=
  num 1 s.settings.capacity ++ num 1 s.rq.fifo.length ++ bit s.rq.holding.isSome ++
    num 4 s.rq.nextNumber ++ num 1 (modeCode s.rq.mode) ++ num 1 s.settings.staleInterval ++
    bit s.rq.staleTimer.isSome

/-- READ HISTORY (R142). -/
def encHistories (c : Cth) : List Byte :=
  bit c.recording ++ item 20 (c.last.map encHistory) ++ item 20 (c.prior.map encHistory) ++
    item 20 (c.fault.map encHistory)

/-- The summary READ CONDITIONS reports (R132). -/
def summary (q : Rq) : BitVec 16 :=
  match q.mode with
  | .head => (q.fifo.head?.map (·.flags)).getD 0#16
  | .accumulated => q.accumulated

/-- The condition set in its four bytes. -/
def encConditions (s : State) : List Byte := num 4 (conditionSet s).toNat

/-- READ CONDITIONS (R147). With no volume open the hit set is the empty set, with no presence byte (log 38). -/
def encStatus (s : State) : List Byte :=
  encConditions s ++ num 4 s.lif.mask.toNat ++ num 1 (runStateCode s.csq.runState) ++
    num 1 (scopeCode s.csq.scope) ++ num 1 (phaseCode s.csq.phase) ++ encReasons s.csq.reasons ++
    num 1 (resumeCode s.csq.resumePoint) ++
    set4 ((s.volume.map (·.hits)).getD (Four.fill false)) ++
    num 1 ((s.csq.faultKind.map faultCode).getD 0) ++ item 4 (s.volume.map encPosition) ++
    num 2 (summary s.rq).toNat

/-- READ LINK (R144): the two counts and the strap rate in baud (log 16). -/
def encLink (l : Lif) : List Byte :=
  num 2 l.drops ++ num 2 l.checkErrors ++ num 4 (strapRate l.straps)

/-- IDENTIFY (R150); the part code takes 2 bytes, as the vendor code does (log 16). -/
def encIdentity (l : Lif) : List Byte :=
  num 2 0x0D3B ++ num 2 0x0062 ++ num 1 (Config.hardwareRevision.val + 1) ++ num 1 (causeCode l.cause)

/-- The four manual levels (R149). -/
def encAux (v : Four Bool) : List Byte := (v.map bit).toList.flatten

end Sys2Proof.Machine
end

