-- ==== Sys2Proof/Machine/Light.lean ====
section
/-! DEFINITION. Light and dose: the lit set and effective on-time of a flash (R81), the dose arithmetic, the
prediction and the cut time (R92 to R100), and the periods of preview light (R85 to R90). -/

namespace Sys2Proof.Machine

/-! ### The lit set -/

/-- Whether a channel would be lit but for its lamp: enabled, driven, and not forced dark by the detour rule
(R30, R81). -/
def wouldLight (detour : Bool) (c : Calibration) (drive : Nat) : Bool :=
  c.enabled && decide (0 < drive) && !(detour && c.coverage == .left)

/-- The lit set of drive levels (R81, R85): what would light and whose lamp fault is not confirmed
asserted. -/
def litSet (drives : Eight Nat) (s : State) : Eight Bool :=
  (s.settings.calibration.zip (wouldLight (decide (1 ≤ levelNow s))) drives).zip (fun b f => b && !f)
    (lampFaulted s)

/-- The lamp-faulted set (R81): what would light but for its lamp fault. -/
def faultedSet (drives : Eight Nat) (s : State) : Eight Bool :=
  (s.settings.calibration.zip (wouldLight (decide (1 ≤ levelNow s))) drives).zip (fun b f => b && f)
    (lampFaulted s)

/-- Whether any channel of a set is in it. -/
def nonempty (v : Eight Bool) : Bool := v.any id

/-- The effective on-time of a flash (R81): the shot's on-time, or the smallest flash limit of the lit set
in µs, whichever is smaller. -/
def effectiveOnTime (lit : Eight Bool) (onTime : Nat) (s : State) : Nat :=
  (lit.zip (fun b (c : Calibration) => if b then c.flashLimit * 1000 else onTime)
    s.settings.calibration).toList.foldl min onTime

/-! ### Dose (chapter 6) -/

/-- The weighted rate of a channel of the lit set; 0 outside it (R92). -/
def weightedRate (lit : Bool) (c : Calibration) (drive : Nat) : Nat :=
  if lit then c.illuminance * drive * c.weight else 0

/-- Whether a coverage reaches a half (R78, R93). -/
def reaches (h : Half) : Coverage → Bool
  | .left => h == .left
  | .right => h == .right
  | .both => true

/-- The side rate of a half (R93). -/
def sideRate (h : Half) (lit : Eight Bool) (drives : Eight Nat) (s : State) : Nat :=
  (lit.zip3 (fun b (c : Calibration) d => if reaches h c.coverage then weightedRate b c d else 0)
    s.settings.calibration drives).toList.sum

/-- Whether a lit channel reaches a half (R117). -/
def litReaches (h : Half) (lit : Eight Bool) (s : State) : Bool :=
  nonempty (lit.zip (fun b (c : Calibration) => b && reaches h c.coverage) s.settings.calibration)

/-- The dose of a side of rate `q` over `t` µs, rounded up (R94). -/
def doseOf (q t : Nat) : Nat := (q * t + 999999999) / 1000000000

/-- The two tests of a prediction (R95): FIRE when both hold. -/
def mayFire (v : Volume) (pl pr : Nat) : Bool :=
  (pl == 0 || decide (doseAt v (leftSide v) + pl ≤ v.sideCeiling)) &&
    (pr == 0 || decide (doseAt v (rightSide v) + pr ≤ v.sideCeiling)) &&
    decide (v.accumulator + pl + pr ≤ v.volumeCeiling)

/-- The smaller of two terms that may be absent. -/
def minTerm : Option Nat → Option Nat → Option Nat
  | some a, some b => some (min a b)
  | some a, none => some a
  | none, b => b

/-- A side's term of the cut time (R100). -/
def sideTerm (remaining rate : Nat) : Option Nat :=
  if rate = 0 then none else some (remaining * 1000000000 / rate)

/-- The volume's term of the cut time (R100): with both sides lit, the remaining amount less 1. -/
def volumeTerm (remaining ql qr : Nat) : Option Nat :=
  if ql = 0 ∧ qr = 0 then none
  else if ql = 0 ∨ qr = 0 then some (remaining * 1000000000 / (ql + qr))
  else some ((remaining - 1) * 1000000000 / (ql + qr))

/-- The cut time of a preview period, `none` for unlimited (R100). -/
def cutTime (v : Volume) (ql qr : Nat) : Option Nat :=
  (minTerm (sideTerm (v.sideCeiling - doseAt v (leftSide v)) ql)
    (minTerm (sideTerm (v.sideCeiling - doseAt v (rightSide v)) qr)
      (volumeTerm (v.volumeCeiling - v.accumulator) ql qr))).map (min (2 ^ 48 - 1))

/-- The cut time with or without a volume: unlimited with none (R86, R100). -/
def cutNow (lit : Eight Bool) (drives : Eight Nat) (s : State) : Option Nat :=
  s.volume.bind fun v => cutTime v (sideRate .left lit drives s) (sideRate .right lit drives s)

/-- The dose of a lit set over `t` µs posted to the current mapping; nothing with no volume (R97, R101). -/
def postLight (lit : Eight Bool) (drives : Eight Nat) (t : Nat) (s : State) : State :=
  s.modVolume fun v =>
    postDose (leftSide v) (rightSide v) (doseOf (sideRate .left lit drives s) t)
      (doseOf (sideRate .right lit drives s) t) v

/-! ### Preview (section 5.5) -/

/-- The current period's dose is posted from its measured duration (R86, R88, R89). -/
def closePeriod (p : Preview) (s : State) : State := postLight p.lit p.drives (ranFor p.timer) s

/-- Preview stops being on: dark, and the duration selector exits (R88, R139). -/
def leavePreview (s : State) : State := edge .previewOn false (s.setLight .dark)

/-- Preview ends if it is on, with its dose posted (R88). -/
def endPreview (s : State) : State :=
  match s.light with
  | .preview p => leavePreview (closePeriod p s)
  | _ => s

/-- A period's timer: the cut if it is at or below the remaining limit, else the remaining limit (R86). -/
def periodTimer (cut : Option Nat) (limitLeft : Nat) : Timer × Bool :=
  match cut with
  | some c => if c ≤ limitLeft then (startTimer c, true) else (startTimer limitLeft, false)
  | none => (startTimer limitLeft, false)

/-- A preview period begins with its lit set, cut time and timer (R86). A cut of 0 ends preview at once, with
DOSE_CEILING and nothing to post (R87). -/
def startPeriod (lit : Eight Bool) (drives : Eight Nat) (limit limitLeft : Nat) (s : State) : State :=
  let cut := cutNow lit drives s
  if cut = some 0 then setCond .doseCeiling (leavePreview s)
  else
    s.setLight <| .preview
      { lit := lit, drives := drives, limit := limit, limitLeft := limitLeft,
        timer := (periodTimer cut limitLeft).1, cut := cut,
        cutExpiry := (periodTimer cut limitLeft).2 }

/-- The lit set of the next period (R90): that of the last one, less the channels of LEFT coverage at level 1 to 4. A
channel that a confirmed lamp fault removes is taken out of the last one first (`boundary`); a lamp fault that
a starting level alone reports removes nothing (R84). -/
def nextLit (lit : Eight Bool) (s : State) : Eight Bool :=
  lit.zip (fun b (c : Calibration) => b && !(decide (1 ≤ levelNow s) && c.coverage == .left))
    s.settings.calibration

/-- A change made at a boundary of preview periods (R89): the period is closed and posted, the change is
applied, and the next period begins with what it keeps of the lit set, or preview ends if that is empty (R90).
With preview off, the change alone. -/
def boundary (keep : Eight Bool → Eight Bool) (change : State → State) (s : State) : State :=
  match s.light with
  | .preview p =>
    let s' := change (closePeriod p s)
    let lit := nextLit (keep p.lit) s'
    if nonempty lit then startPeriod lit p.drives p.limit p.limitLeft s' else leavePreview s'
  | _ => change s

/-- A boundary of preview periods that removes no channel of its own (R89). -/
def atBoundary (change : State → State) (s : State) : State := boundary id change s

/-- Every light channel goes dark; preview, if on, ends with its dose posted (R42, R70). -/
def allDark (s : State) : State := (endPreview s).setLight .dark

end Sys2Proof.Machine
end

