-- ==== Sys2Proof/Machine/Decide.lean ====
section
/-! DEFINITION. The run's decisions between its pieces (chapter 4): the opening-completion evaluation, the
BEFORE_TURN evaluation, and what follows a completed capture pass. -/

namespace Sys2Proof.Machine

/-- The union of two sets of hold reasons. -/
def Reasons.union (a b : Reasons) : Reasons :=
  { step := a.step || b.step, mark := a.mark || b.mark, camera := a.camera || b.camera,
    dose := a.dose || b.dose, lamp := a.lamp || b.lamp }

/-- Whether an evaluation hit any mark. -/
def anyHit (hits : Four Bool) : Bool := hits.any id

/-- An evaluation of stop marks (R19): at level 0 it replaces the hit set with its result; at level 1 to 4 its
result is empty and the hit set is left. -/
def evaluation (hits : Four Bool) (v : Volume) : Four Bool :=
  if level v = 0 then hits else Four.fill false

/-- The hit set is replaced by an evaluation's result, and a hit sets MARK_HIT (R19, R65, R66). -/
def recordHits (hits : Four Bool) (s : State) : State :=
  let s' := s.modVolume fun v => if level v = 0 then { v with hits := hits } else v
  if anyHit hits then setCond .markHit s' else s'

/-- The turn is next: it begins once the holding slot is empty (R44, R45, R127). -/
def awaitTurn (d : Direction) (s : State) : State :=
  s.modCsq fun c => { c with phase := .none, awaiting := some (.turn d) }

/-- The BEFORE_TURN evaluation of a continuous run, and what it decides (R66). -/
def beforeTurn (s : State) : State :=
  match s.volume with
  | none => s
  | some v =>
    let hits := evaluation (beforeTurnHits v (underlying v + 1)) v
    let s' := recordHits hits s
    if anyHit hits && !s.csq.passOnce then
      enterHeld (s.csq.reasons.union { Reasons.empty with mark := true }) .beforeTurn s'
    else awaitTurn .forward s'

/-- The opening-completion evaluation of a continuous run, its steps in order (R65). At opening N the run
ends with its END record, which waits for the holding slot; the reasons gathered stand until then
(R44, log 24). -/
def openingCompletion (s : State) : State :=
  match s.volume with
  | none => s
  | some v =>
    let hits := evaluation (afterCaptureHits v (underlying v)) v
    let s' := recordHits hits s
    let reasons := s.csq.reasons.union
      { Reasons.empty with mark := anyHit hits, step := s.csq.stepMode == .opening }
    if underlying v = v.leafCount then
      s'.modCsq fun c => { c with phase := .none, reasons := reasons, awaiting := some .endRecord }
    else if s.csq.haltPending then endRun s'
    else if reasons ≠ Reasons.empty then enterHeld reasons .afterPass s'
    else beforeTurn s'

/-- A ONE_CAPTURE begun from HELD returns the run to HELD, with the reasons and resume point set aside
(R38, R68); the scope is CONTINUOUS again (log 26). -/
def returnToHeld (a : SetAside) (s : State) : State :=
  enterHeld a.reasons a.point
    (s.modCsq fun c => { c with scope := some .continuous, setAside := none })

/-- CSQ is told that a pass has completed: it clears the unsettled mark, then makes the opening-completion
evaluation of a continuous run or ends the ONE_CAPTURE scope (R44, R46, R68, R119). -/
def passCompleted (s : State) : State :=
  let s' := s.modCsq fun c => { c with unsettled := false }
  if s.csq.scope = some .continuous then openingCompletion s'
  else
    match s.csq.setAside with
    | some a => returnToHeld a s'
    | none => endRun s'

end Sys2Proof.Machine
end

