-- ==== Sys2Proof/Machine/Shots.lean ====
section
/-! DEFINITION. The shot plan unit's operations (chapter 7): the start of a pass, the steps of one shot, its
record and its side updates, and the completion or abandoning of the pass. -/

namespace Sys2Proof.Machine

/-! ### The pass in hand -/

/-- The pass progress changed, if a pass is in progress or suspended. -/
def modPass (f : Pass → Pass) (s : State) : State :=
  s.modSpu fun u => { u with pass := u.pass.map f }

/-- The camera port of a half. -/
def portOf (h : Half) (u : Spu) : Port :=
  match h with
  | .left => u.left
  | .right => u.right

/-- The camera port of a half changed. -/
def modPort (h : Half) (f : Port → Port) (s : State) : State :=
  s.modSpu fun u =>
    match h with
    | .left => { u with left := f u.left }
    | .right => { u with right := f u.right }

/-- What the shot in hand has of a camera, changed. -/
def modCamera (h : Half) (f : CameraShot → CameraShot) (x : ShotInHand) : ShotInHand :=
  match h with
  | .left => { x with left := f x.left }
  | .right => { x with right := f x.right }

/-- A camera before a shot's trigger. -/
def CameraShot.blank : CameraShot := { triggered := false, frame := none, late := false, noFrame := false }

/-- A shot before its flash setup. -/
def ShotInHand.blank : ShotInHand :=
  { lit := Eight.fill false, lampFault := false, motion := false, left := CameraShot.blank,
    right := CameraShot.blank, onTime := 0, doseLeft := 0, doseRight := 0, predicted := none }

/-- The shot the pass stands at. -/
def shotAt (p : Pass) : Option Shot := p.plan.shots[p.index]?

/-- Whether the narrowed camera set of the pass's shot contains a half's camera (R30, R110). -/
def usesCamera (p : Pass) (x : Shot) : Half → Bool
  | .left => usesLeft p.detour x.cameras
  | .right => usesRight x.cameras

/-- The first shot from index `n` on that is not skipped (R110). -/
def shotFrom (detour : Bool) (shots : List Shot) (n : Nat) : Option Nat :=
  (shots.zipIdx.find? fun xi => decide (n ≤ xi.2) && !skipped detour xi.1.cameras).map (·.2)

/-- The step becomes due for the shot at an index, with nothing gathered for it yet. -/
def beginShotAt (i : Nat) (p : Pass) : Pass :=
  { p with index := i, step := .toBegin, shot := ShotInHand.blank }

/-! ### The end of a pass (R119, R120) -/

/-- The capture state a pass leaves on a side it shot (R119). -/
def passOutcome (t : Tally) : CaptureState :=
  if t.withheld then .withheld else if t.fault then .flagged else .captured

/-- A side brought up to date at the end of a pass (R119): only one that was shot in it. -/
def closeSide (ref : SideRef) (t : Tally) (v : Volume) : Volume :=
  if t.shot then
    modSide ref (fun r =>
      { r with capture := passOutcome t,
               retakes := if t.before then satSucc 255 r.retakes else r.retakes }) v
  else v

/-- The sides of a pass are brought up to date, the pass progress is cleared, and the end of the pass is
reported to the counters (R119, R120). -/
def closePass (p : Pass) (s : State) : State :=
  closePassScope <|
    (s.modVolume fun v => closeSide p.rightSide p.rightTally (closeSide p.leftSide p.leftTally v)).modSpu
      fun u => { u with pass := none }

/-- The pass completes, and CSQ goes on (R119). -/
def completePass (p : Pass) (s : State) : State := passCompleted (closePass p s)

/-- A pass in progress or suspended is abandoned: its completion is not reported to CSQ (R120). -/
def abandonPass (s : State) : State :=
  match s.spu.pass with
  | some p => closePass p s
  | none => s

/-! ### The start of a pass (R109, R110) -/

/-- The staged plan becomes active: for a continuous pass always, for a ONE_CAPTURE pass when the active slot
is empty (R109). -/
def takePlan (s : State) : State :=
  match s.spu.staged with
  | none => s
  | some plan =>
    if s.csq.scope = some .continuous ∨ s.spu.active = none then
      setCond .planTaken (s.modSpu fun u => { u with active := some plan, staged := none })
    else s

/-- The tally of a side as a pass starts: "shot before the pass" for a side that will be in play (R110). -/
def firstTally (inPlay : Bool) (ref : SideRef) (v : Volume) : Tally :=
  { before := inPlay && decide (0 < ((sideAt v ref).map (·.shots)).getD 0),
    shot := false, withheld := false, fault := false }

/-- The platen-down input is not confirmed asserted (R44). -/
def unflattenedNow (s : State) : Bool := !s.lmn.platenDown.getD false

/-- The pass progress of a plan as a pass over a volume starts (R110). -/
def newPass (plan : Plan) (v : Volume) (unflattened unsettled : Bool) : Pass :=
  let detour := decide (1 ≤ level v)
  { plan := plan, index := 0, step := .between, detour := detour, unflattened := unflattened,
    unsettled := unsettled, leftSide := leftSide v, rightSide := rightSide v,
    leftTally := firstTally (plan.shots.any fun x => usesLeft detour x.cameras) (leftSide v) v,
    rightTally := firstTally (plan.shots.any fun x => usesRight x.cameras) (rightSide v) v,
    shot := ShotInHand.blank }

/-- A capture pass begins: it takes its plan, fixes its sides and tallies, opens its scope, and its first shot
that is not skipped is due; a pass whose every shot is skipped completes at once (R109, R110). -/
def startPass (s : State) : State :=
  let s1 := takePlan s
  match s1.spu.active, s1.volume with
  | some plan, some v =>
    let p := newPass plan v (unflattenedNow s1) s1.csq.unsettled
    let s2 := openPassScope s1
    match shotFrom p.detour plan.shots 0 with
    | some i => s2.modSpu fun u => { u with pass := some (beginShotAt i p) }
    | none => completePass p s2
  | _, _ => s1

/-! ### The record of a shot and what follows it (R117, R118) -/

/-- A side as a record names it, marked exposed or in play (R32, R117). -/
def nameSide (v : Volume) (exposed : Bool) : SideRef → SideId
  | .leaf n side => .leaf exposed n side (labelOf v n side)
  | .insert f i => .insert f i

/-- The side identity of a half in a SHOT record (R32, R117). -/
def sideIdentity (v : Volume) (p : Pass) (x : Shot) (s : State) (h : Half) (ref : SideRef) : SideId :=
  if usesCamera p x h then nameSide v false ref
  else if litReaches h p.shot.lit s || (p.detour && h == .left) then nameSide v true ref
  else .absent

/-- The content of a SHOT record (R117). -/
def shotRecord (v : Volume) (p : Pass) (x : Shot) (s : State) : ShotRecord :=
  { planId := p.plan.id, index := p.index, tag := x.tag, level := level v, position := v.position,
    left := sideIdentity v p x s .left p.leftSide, right := sideIdentity v p x s .right p.rightSide,
    triggeredLeft := p.shot.left.triggered, triggeredRight := p.shot.right.triggered,
    frameLeft := p.shot.left.frame, frameRight := p.shot.right.frame, onTime := p.shot.onTime,
    doseLeft := p.shot.doseLeft, doseRight := p.shot.doseRight, predicted := p.shot.predicted }

/-- A side in play is counted at its shot's record (R118). -/
def countSide (inPlay : Bool) (ref : SideRef) (number : Nat) (v : Volume) : Volume :=
  if inPlay then
    modSide ref (fun r => { r with shots := satSucc 255 r.shots, lastRecord := some number }) v
  else v

/-- The tally of a side after a shot's record (R118). -/
def countTally (inPlay withheld fault : Bool) (t : Tally) : Tally :=
  if inPlay then
    { t with shot := true, withheld := t.withheld || withheld, fault := t.fault || fault }
  else t

/-- The tallies of a pass after a shot's record with the given flags (R118). -/
def tallyShot (x : Shot) (flags : BitVec 16) (p : Pass) : Pass :=
  let withheld := p.shot.predicted.isSome
  { p with
    leftTally := countTally (usesCamera p x .left) withheld (sideFault flags .left) p.leftTally
    rightTally := countTally (usesCamera p x .right) withheld (sideFault flags .right) p.rightTally }

/-- The shot's record is built and handed over, and the sides in play are updated (R117, R118). -/
def recordShot (ended : ShotEnd) (p : Pass) (x : Shot) (s : State) : State :=
  match s.volume with
  | none => s
  | some v =>
    let flags := shotFlags p x.cameras ended
    let number := s.rq.nextNumber
    let s1 := handOver flags (.shot (shotRecord v p x s)) s
    let s2 := s1.modVolume fun w =>
      countSide (usesCamera p x .right) p.rightSide number
        (countSide (usesCamera p x .left) p.leftSide number w)
    modPass (fun q => { tallyShot x flags q with step := .between }) s2

/-- The next shot of the plan is due, or after the last one the pass completes (R118, R119). -/
def nextShot (s : State) : State :=
  match s.spu.pass with
  | none => s
  | some p =>
    match shotFrom p.detour p.plan.shots (p.index + 1) with
    | some i => modPass (beginShotAt i) s
    | none => completePass p s

/-- The hold reasons a completed shot gathers (R64, R118). -/
def shotReasons (p : Pass) (x : Shot) (mode : StepMode) : Reasons :=
  { Reasons.empty with
    dose := p.shot.predicted.isSome && x.policy == .hold
    lamp := p.shot.lampFault
    step := mode == .shot }

/-- The shot in hand completes: its record, its side updates, and the hold decision (R113 to R118). -/
def completeShot (s : State) : State :=
  match s.spu.pass with
  | none => s
  | some p =>
    match shotAt p with
    | none => s
    | some x =>
      let s' := recordShot .completed p x s
      let reasons := shotReasons p x s.csq.stepMode
      if reasons = Reasons.empty then nextShot s'
      else enterHeld (s.csq.reasons.union reasons) .afterShot s'

/-! ### The steps of a shot (R112 to R115) -/

/-- Whether an exposure is pending on either port. -/
def anyPending (s : State) : Bool := s.spu.left.pending || s.spu.right.pending

/-- The trigger of one camera of the set: the TRIG pulse of 100 µs begins and the exposure is pending
(R114). A pulse of an earlier shot that still stands is restarted for a full 100 µs (log 43). -/
def triggerCamera (h : Half) (s : State) : State :=
  modPass (fun p => { p with shot := modCamera h (fun c => { c with triggered := true }) p.shot })
    (modPort h (fun q => { q with pending := true, trig := some (startTimer 100) }) s)

/-- The trigger falls: each camera of the narrowed camera set is triggered (R114). -/
def trigger (s : State) : State :=
  match s.spu.pass with
  | none => s
  | some p =>
    match shotAt p with
    | none => s
    | some x =>
      let s0 := modPass (fun q => { q with step := .flash none }) s
      let s1 := if usesCamera p x .left then triggerCamera .left s0 else s0
      if usesCamera p x .right then triggerCamera .right s1 else s1

/-- EAU withholds the shot: the condition, the count, the event, and a record with the predictions (R96,
R113). -/
def withholdShot (pl pr : Nat) (s : State) : State :=
  completeShot <|
    modPass (fun p => { p with shot := { p.shot with predicted := some (pl, pr) } }) <|
      event .shotsWithheld <| setCond .doseWithheld <|
        s.modVolume fun v => { v with withheld := satSucc (2 ^ 32 - 1) v.withheld }

/-- EAU lets the shot fire: the count and the event, the flash begins, and the trigger timer runs for the
effective delay; a delay of 0 triggers at once (R82, R95, R103, R113). -/
def fireShot (x : Shot) (lit : Eight Bool) (onTime : Nat) (s : State) : State :=
  let s1 := event .shotsFired (s.modVolume fun v => { v with fired := satSucc (2 ^ 32 - 1) v.fired })
  let s2 := s1.setLight (.flash { lit := lit, drives := x.drives, timer := startTimer onTime })
  let delay := min x.delay onTime
  if delay = 0 then trigger s2
  else modPass (fun p => { p with step := .flash (some (startTimer delay)) }) s2

/-- The prediction of a shot, handled as one event with its flash setup (R81, R84, R95, R113). -/
def predictShot (x : Shot) (s : State) : State :=
  match s.volume with
  | none => s
  | some v =>
    let lit := litSet x.drives s
    let faulted := nonempty (faultedSet x.drives s)
    let onTime := effectiveOnTime lit x.onTime s
    let pl := doseOf (sideRate .left lit x.drives s) onTime
    let pr := doseOf (sideRate .right lit x.drives s) onTime
    let s1 := if faulted then setCond .lampFault s else s
    let s2 := modPass (fun p => { p with shot := { p.shot with lit := lit, lampFault := faulted } }) s1
    if mayFire v pl pr then fireShot x lit onTime s2 else withholdShot pl pr s2

/-- Whether every camera of the shot's narrowed set is confirmed ready (R112). -/
def camerasReady (p : Pass) (x : Shot) (s : State) : Bool :=
  (!usesCamera p x .left || cameraReady .left s) && (!usesCamera p x .right || cameraReady .right s)

/-- The ready check: satisfied at once, or the ready wait starts (R112). -/
def readyCheck (s : State) : State :=
  match s.spu.pass with
  | none => s
  | some p =>
    match shotAt p with
    | none => s
    | some x =>
      if camerasReady p x s then predictShot x s
      else modPass (fun q => { q with step := .readyWait (startMs s.settings.readyWait) }) s

/-- A change of a camera to ready satisfies a ready wait whose every camera now stands ready (R112). -/
def readyChanged (s : State) : State :=
  match s.spu.pass with
  | none => s
  | some p =>
    match p.step, shotAt p with
    | .readyWait _, some x => if camerasReady p x s then predictShot x s else s
    | _, _ => s

/-- A pending exposure of the shot is closed with no frame (R115, R120). -/
def noFrame (h : Half) (s : State) : State :=
  modPass (fun p => { p with shot := modCamera h (fun c => { c with noFrame := true }) p.shot })
    (modPort h (fun q => { q with pending := false }) s)

/-- The frame grace expires: every camera still pending has no frame, and the shot completes (R115). -/
def graceExpired (s : State) : State :=
  let s1 := if s.spu.left.pending then noFrame .left s else s
  completeShot (if s.spu.right.pending then noFrame .right s1 else s1)

/-- The flash goes dark after `t` µs and its dose is posted and noted for the record (R82, R83, R97). -/
def darken (f : Flash) (t : Nat) (s : State) : State :=
  modPass (fun p =>
      { p with shot := { p.shot with
          onTime := t
          doseLeft := doseOf (sideRate .left f.lit f.drives s) t
          doseRight := doseOf (sideRate .right f.lit f.drives s) t } })
    (postLight f.lit f.drives t (s.setLight .dark))

/-- The flash ended by its timer is reported to SPU: with an exposure pending the frame grace starts, and a
grace of 0 expires at once; otherwise the shot completes (R114, R115). -/
def flashReported (s : State) : State :=
  if anyPending s then
    if s.settings.frameGrace = 0 then graceExpired s
    else modPass (fun p => { p with step := .grace (startMs s.settings.frameGrace) }) s
  else completeShot s

/-- Whether the trigger of the shot in hand has still to fall. -/
def triggerDue (s : State) : Bool :=
  match s.spu.pass with
  | some p =>
    match p.step with
    | .flash (some _) => true
    | _ => false
  | none => false

/-- The flash timer expires (R82, R83, R114): a trigger that falls with it is pulsed first, and so is one
whose timer an expiry given as a command passes over (log 2). -/
def flashExpired (f : Flash) (s : State) : State :=
  flashReported (darken f f.timer.figure (if triggerDue s then trigger s else s))

/-- An exposure-end pulse on a port (R116): it counts, and it ends a pending exposure or is a stray frame; in
GRACE the frame is late, and the shot completes once no camera is pending (R115). -/
def exposureEnd (h : Half) (s : State) : State :=
  let count := wrapSucc 32 (portOf h s.spu).frames
  let counted := event (match h with | .left => .framesLeft | .right => .framesRight)
    (modPort h (fun q => { q with frames := count }) s)
  if (portOf h s.spu).pending then
    let grace := match s.spu.pass with
      | some p => match p.step with | .grace _ => true | _ => false
      | none => false
    let s1 := modPass
      (fun p => { p with shot := modCamera h (fun c => { c with frame := some count, late := grace }) p.shot })
      (modPort h (fun q => { q with pending := false }) counted)
    if grace && !anyPending s1 then completeShot s1 else s1
  else event .strayFrames (setCond .strayFrame counted)

/-! ### A shot ended early (R70, R74, R120) -/

/-- TRIG outputs that are asserted are withdrawn (R70, R120). -/
def withdrawTriggers (s : State) : State :=
  s.modSpu fun u =>
    { u with left := { u.left with trig := none }, right := { u.right with trig := none } }

/-- Whether the shot in hand is in flight: its flash has begun and its record is not built (R70). -/
def inFlight (p : Pass) : Bool :=
  match p.step with
  | .flash _ => true
  | .grace _ => true
  | _ => false

/-- Each camera of the set that has delivered no frame is marked NO_FRAME and stops being pending (R120). -/
def closeCamera (p : Pass) (x : Shot) (h : Half) (cam : CameraShot) (s : State) : State :=
  if usesCamera p x h && cam.frame.isNone then noFrame h s else s

/-- A shot in flight is recorded at once, with the dose of the time its flash was lit (R70, R74, R120). -/
def endShotEarly (ended : ShotEnd) (s : State) : State :=
  match s.spu.pass with
  | none => s
  | some p =>
    match shotAt p with
    | none => s
    | some x =>
      if inFlight p then
        let s1 := match s.light with
          | .flash f => darken f (ranFor f.timer) s
          | _ => s
        let s2 := closeCamera p x .left p.shot.left (closeCamera p x .right p.shot.right s1)
        match s2.spu.pass with
        | some q => recordShot ended q x s2
        | none => s2
      else s

/-- Every shot, pass and light in progress comes to its end at an ABORT or a guard trip (R70, R74). -/
def stopCapture (ended : ShotEnd) (s : State) : State :=
  abandonPass (allDark (withdrawTriggers (endShotEarly ended s)))

end Sys2Proof.Machine
end

