-- ==== Sys2Proof/Machine/Cycle.lean ====
section
/-! DEFINITION. The cradle sequencer's movements (chapter 3) and the guard (section 4.5): the phases of a turn
and of homing, settle, the end of a turn, faults, ABORT and the guard trip. A phase whose ending input is
already confirmed ends at once (R48), so the entries stand in reverse order, each calling the next. -/

namespace Sys2Proof.Machine

/-! ### Inputs, outputs and timers -/

/-- The confirmed level of a feedback input; not asserted until established (R36). -/
def feedbackLevel (f : Feedback) (l : Lmn) : Bool :=
  (match f with
    | .lift => l.lift
    | .grip => l.grip
    | .carryEnd => l.carryEnd
    | .release => l.release
    | .park => l.park
    | .platenUp => l.platenUp
    | .platenDown => l.platenDown).getD false

/-- The confirmed level of a feedback input set. -/
def setFeedback (f : Feedback) (b : Bool) (l : Lmn) : Lmn :=
  match f with
  | .lift => { l with lift := some b }
  | .grip => { l with grip := some b }
  | .carryEnd => { l with carryEnd := some b }
  | .release => { l with release := some b }
  | .park => { l with park := some b }
  | .platenUp => { l with platenUp := some b }
  | .platenDown => { l with platenDown := some b }

/-- Every actuator output off, but a vacuum that is on stays on (R52, R71, R73). -/
def Actuators.offKeepVacuum (a : Actuators) : Actuators := { Actuators.off with vacuum := a.vacuum }

/-- The actuator outputs changed. -/
def drive (f : Actuators → Actuators) (s : State) : State :=
  s.modCsq fun c => { c with actuators := f c.actuators }

/-- The phase and settle timers stopped. -/
def stopTimers (s : State) : State :=
  s.modCsq fun c => { c with phaseTimer := none, settleTimer := none, settleLimit := none }

/-- A phase is entered with its timer, for a timeout in ms (R48). -/
def enterPhase (p : Phase) (timeout : Nat) (s : State) : State :=
  s.modCsq fun c => { c with phase := p, phaseTimer := some (startMs timeout) }

/-- The CARRY timeout in force: doubled for a FRAGILE volume (R48). -/
def carryTimeout (s : State) : Nat :=
  if s.volume.any (fun v => v.handling == .fragile) then 2 * s.settings.timing.carry
  else s.settings.timing.carry

/-- The arm direction toward the far side of a turn, away from its pick side (R48). -/
def farSide : Direction → ArmDirection
  | .forward => .toLeft
  | .backward => .toRight

/-- The arm direction toward the pick side of a turn (R48). -/
def pickSide : Direction → ArmDirection
  | .forward => .toRight
  | .backward => .toLeft

/-! ### The end of a turn (R55, R59, R141) -/

/-- The opening the position names now. -/
def openingNow (s : State) : Nat := (s.volume.map underlying).getD 0

/-- The TURN record of a turn that ends now (R55); its times are measured on the time base and a part of a
millisecond is dropped (R135). -/
def turnRecord (t : TurnJob) (result : TurnResult) (s : State) : TurnRecord :=
  let settling := s.csq.phase == .settle
  { direction := t.direction, leaf := t.leaf, fromOpening := t.fromOpening, toOpening := openingNow s,
    result := result, hand := t.hand, retries := if t.hand then 0 else s.csq.retries,
    settleRestarts := if settling then s.csq.settleRestarts else 0,
    settleDuration := if settling then sinceTime s.csq.settleStart s / 1000 else 0,
    turnDuration := sinceTime t.start s / 1000 }

/-- What VAU is told of a turn's end: the count of completed turns, or TURN_FAULTED on the leaf carried
(R11, R55, R125). -/
def turnAccount (t : TurnJob) (result : TurnResult) (v : Volume) : Volume :=
  if result = .complete then { v with turnsCompleted := satSucc (2 ^ 32 - 1) v.turnsCompleted }
  else modLeaf t.leaf (fun l => { l with turnFaulted := true }) v

/-- The history record of a turn that ends now (R141). -/
def historyRecord (t : TurnJob) (result : TurnResult) (s : State) : HistoryRecord :=
  { fromOpening := t.fromOpening, toOpening := openingNow s, leaf := t.leaf, direction := t.direction,
    start := t.start, finish := s.cth.timeBase, result := result }

/-- A turn end reported to the history; a freezing one is kept as FAULT and clears the enable (R141). -/
def writeHistory (freezing : Bool) (h : HistoryRecord) (c : Cth) : Cth :=
  if c.recording then
    { c with last := some h, prior := c.last, fault := if freezing then some h else c.fault,
             recording := !freezing }
  else c

/-- A turn ends (R55): its record, its event, the account of its leaf, the history, and the close of its scope;
pass-once is cleared (R66). -/
def endTurn (result : TurnResult) (freezing unsettled : Bool) (s : State) : State :=
  match s.csq.turn with
  | none => s
  | some t =>
    let s1 := handOver (flagIf unsettled .unsettled) (.turn (turnRecord t result s)) s
    let s2 := (s1.modVolume (turnAccount t result)).modCth (writeHistory freezing (historyRecord t result s))
    let s3 := closeTurnScope
      (event (if result = .complete then .turnsCompleted else .turnFaults) s2)
    s3.modCsq fun c => { c with turn := none, passOnce := false }

/-- What entry to FAULTED, or a trip of a turn, leaves of the run (R59, R73): no scope, no phase, both timers
stopped, no reasons and nothing pending. -/
def dropRun (s : State) : State :=
  (stopTimers s).modCsq fun c =>
    { c with scope := none, phase := .none, reasons := Reasons.empty, resumePoint := none, setAside := none,
             haltPending := false, passOnce := false, awaiting := none, turn := none }

/-- Entry to FAULTED (R59). -/
def enterFaulted (k : FaultKind) (s : State) : State :=
  setCond .turnFault ((dropRun (setRunState .faulted s)).modCsq fun c => { c with faultKind := some k })

/-- A turn, or a platen movement, ends in a fault: a turn ends with its record and freezes the history; a
platen movement closes its settle scope alone (R47, R55, R59, R138). -/
def faultMove (k : FaultKind) (s : State) : State :=
  enterFaulted k (closeSettleScope (endTurn (.fault k) true false s))

/-! ### Homing (R40) -/

/-- Homing ends: the drives are off, the arm is certain, and the run state is DISARMED (R40). -/
def homed (s : State) : State :=
  setRunState .disarmed <| stopTimers <|
    s.modCsq fun c => { c with actuators := Actuators.off, armCertain := true, phase := .none }

/-- A homing step timed out (R40). -/
def homeFailed (s : State) : State :=
  setCond .homeFail <| setRunState .unhomed <| stopTimers <|
    s.modCsq fun c => { c with actuators := Actuators.off, armCertain := false, phase := .none }

/-! ### Settle (R57, R58, R66) -/

/-- SETTLE is entered: its timer for the interval, and its limit of the interval times the multiplier (R57). -/
def enterSettle (s : State) : State :=
  s.modCsq fun c =>
    { c with
      phase := .settle
      phaseTimer := none
      actuators := Actuators.off
      settleTimer := some (startMs s.settings.timing.interval)
      settleLimit := some (startMs (s.settings.timing.interval * s.settings.timing.multiplier))
      settleStart := s.cth.timeBase
      settleRestarts := 0 }

/-- The decision at the SETTLE completion of a continuous run's turn (R66). -/
def settleDecision (s : State) : State :=
  if s.csq.haltPending then endRun s
  else if s.csq.stepMode = .turn then
    enterHeld (s.csq.reasons.union { Reasons.empty with step := true }) .afterSettle s
  else startPass s

/-- SETTLE completes, at its limit or normally: the unsettled mark is set or cleared (R58), a turn ends
COMPLETE with its record (R55), and the run goes on or its scope ends (R45, R47, R66). -/
def settled (atLimit : Bool) (s : State) : State :=
  let s1 := if atLimit then setCond .settleLimit s else s
  let s2 := closeSettleScope (endTurn .complete false atLimit s1)
  let s3 := (stopTimers s2).modCsq fun c => { c with unsettled := atLimit, phase := .none }
  if s.csq.scope = some .continuous then settleDecision s3 else endRun s3

/-! ### The phases, last to first (R48) -/

/-- PLATEN_DOWN has ended: homing is done, or SETTLE follows (R40, R48). -/
def platenDownDone (s : State) : State :=
  if s.csq.runState = .homing then homed s else enterSettle s

/-- PLATEN_DOWN is entered: arm drive off, platen down drive on (R48). -/
def enterPlatenDown (s : State) : State :=
  let s1 := enterPhase .platenDown s.settings.timing.platenDown
    (drive (fun _ => { Actuators.off with platenDown := true }) s)
  if feedbackLevel .platenDown s.lmn then platenDownDone s1 else s1

/-- RETURN has ended: after a reversal the turn is a DOUBLE_LEAF fault, and otherwise the platen goes down
(R40, R48, R51). -/
def returnDone (s : State) : State :=
  if s.csq.turn.any (·.reversal) then faultMove .doubleLeaf (drive (fun _ => Actuators.off) s)
  else enterPlatenDown s

/-- RETURN is entered: the arm is driven to park (R40, R48). -/
def enterReturn (s : State) : State :=
  let s1 := enterPhase .returning s.settings.timing.returning
    (drive (fun _ => { Actuators.off with armRun := true, armDirection := .toPark }) s)
  if feedbackLevel .park s.lmn then returnDone s1 else s1

/-- RELEASE has ended: in a turn that is no reversal the position moves (R53). -/
def releaseDone (s : State) : State :=
  match s.csq.turn with
  | some t =>
    enterReturn (if t.reversal then s else s.modVolume (moveByTurn t.direction t.leaf false))
  | none => enterReturn s

/-- RELEASE is entered: arm run and vacuum off (R48). -/
def enterRelease (s : State) : State :=
  let s1 := enterPhase .release s.settings.timing.release
    (drive (fun a => { a with armRun := false, vacuum := false }) s)
  if feedbackLevel .release s.lmn then releaseDone s1 else s1

/-- The turn in hand has become a reversal (R51). -/
def markReversal (s : State) : State :=
  s.modCsq fun c => { c with turn := c.turn.map fun t => { t with reversal := true } }

/-- The direction of the turn in hand. -/
def directionNow (s : State) : Direction := (s.csq.turn.map (·.direction)).getD .forward

/-- REVERSE_CARRY is entered: arm toward the pick side, arm run on, vacuum on (R48, R51). -/
def enterReverseCarry (s : State) : State :=
  markReversal <| enterPhase .reverseCarry (carryTimeout s) <|
    drive (fun _ => { Actuators.off with vacuum := true, armRun := true,
                                         armDirection := pickSide (directionNow s) }) s

/-- CARRY is entered with its gauge reading: a DOUBLE makes it a reversal whose REVERSE_CARRY is complete at
once (R49, R51); a SINGLE sets the arm off toward the far side. -/
def enterCarry (g : Gauge) (s : State) : State :=
  match g with
  | .double => enterRelease (enterReverseCarry s)
  | .single =>
    enterPhase .carry (carryTimeout s)
      (drive (fun _ => { Actuators.off with vacuum := true, armRun := true,
                                            armDirection := farSide (directionNow s) }) s)

/-- Carry-end is confirmed in CARRY, with its gauge reading: a DOUBLE carries the leaves back (R49, R51). -/
def carryDone (g : Gauge) (s : State) : State :=
  match g with
  | .double => enterReverseCarry s
  | .single => enterRelease s

/-- GRIP is entered: vacuum on (R48). -/
def enterGrip (g : Gauge) (s : State) : State :=
  let s1 := enterPhase .grip s.settings.timing.grip (drive (fun a => { a with vacuum := true }) s)
  if feedbackLevel .grip s.lmn then enterCarry g s1 else s1

/-- LIFT is entered: platen drive off, air knife on (R48). -/
def enterLift (g : Gauge) (s : State) : State :=
  let s1 := enterPhase .lift s.settings.timing.lift
    (drive (fun a => { a with platenUp := false, platenDown := false, airKnife := true }) s)
  if feedbackLevel .lift s.lmn then enterGrip g s1 else s1

/-- AWAIT_HAND is entered: platen drive off, HAND_TURN_WAIT set, no timer (R56). -/
def enterAwaitHand (s : State) : State :=
  setCond .handTurnWait <|
    s.modCsq fun c => { c with phase := .awaitHand, phaseTimer := none, actuators := Actuators.off }

/-- PLATEN_UP has ended: a PLATEN UP movement is complete (R47; the drive goes off, log 34), a hand turn awaits
the hand, and an automatic turn lifts the leaf (R48, R56). -/
def platenUpDone (g : Gauge) (s : State) : State :=
  match s.csq.turn with
  | none => endRun (stopTimers (drive (fun _ => Actuators.off) s))
  | some t => if t.hand then enterAwaitHand s else enterLift g s

/-- PLATEN_UP is entered: platen up drive on (R48). -/
def enterPlatenUp (g : Gauge) (s : State) : State :=
  let s1 := enterPhase .platenUp s.settings.timing.platenUp
    (drive (fun _ => { Actuators.off with platenUp := true }) s)
  if feedbackLevel .platenUp s.lmn then platenUpDone g s1 else s1

/-- A turn begins: VAU names the leaf and says whether it must be turned by hand (R17), the retry count is 0
(R50), and the turn's scope opens (R138). -/
def beginTurn (d : Direction) (g : Gauge) (s : State) : State :=
  match s.volume.bind fun v => (leafToCarry v d).map fun leaf => (v, leaf) with
  | none => endRun s
  | some (v, leaf) =>
    enterPlatenUp g <| openTurnScope <|
      s.modCsq fun c =>
        { c with
          awaiting := none
          retries := 0
          turn := some { direction := d, leaf := leaf, fromOpening := underlying v,
                         hand := mustTurnByHand v leaf, start := s.cth.timeBase, reversal := false } }

/-! ### Timeouts (R40, R50, R52) -/

/-- The retries the volume's handling class allows (R50). -/
def retriesAllowed (s : State) : Nat := (s.volume.map fun v => retryLimit v.handling).getD 0

/-- A pick is retried: vacuum off, air knife on, one retry more, and LIFT again (R50). -/
def retryPick (g : Gauge) (s : State) : State :=
  enterLift g <| event .turnRetries <|
    s.modCsq fun c =>
      { c with retries := c.retries + 1,
               actuators := { c.actuators with vacuum := false, airKnife := true } }

/-- A timeout in LIFT or GRIP: a retry, or GRIP_FAIL at the retry limit (R50). -/
def pickTimeout (g : Gauge) (s : State) : State :=
  if s.csq.retries < retriesAllowed s then retryPick g s
  else faultMove .gripFail (drive (fun _ => Actuators.off) s)

/-- A timeout in any other phase of a movement: MOTION_TIMEOUT, the arm no longer certain; the vacuum stays on
in CARRY and REVERSE_CARRY (R52). -/
def motionTimeout (s : State) : State :=
  let kept := s.csq.phase = .carry ∨ s.csq.phase = .reverseCarry
  faultMove .motionTimeout <|
    (drive (fun a => if kept then a.offKeepVacuum else Actuators.off) s).modCsq
      fun c => { c with armCertain := false }

/-- The phase timer expires (R40, R48). -/
def phaseTimedOut (g : Gauge) (s : State) : State :=
  if s.csq.runState = .homing then homeFailed s
  else if s.csq.phase = .lift ∨ s.csq.phase = .grip then pickTimeout g s
  else motionTimeout s

/-! ### ABORT (R70, R71) and the guard trip (R73 to R75) -/

/-- The phases in which an ABORT finds the arm between its known places (R71). -/
def armBetween : Phase → Bool
  | .grip => true
  | .carry => true
  | .reverseCarry => true
  | .release => true
  | _ => false

/-- An ABORT or a trip in SETTLE sets the unsettled mark (R71, R74; in a platen movement, log 29). -/
def markUnsettled (s : State) : State :=
  if s.csq.phase = .settle then s.modCsq fun c => { c with unsettled := true } else s

/-- ABORT in HOMING, with light and triggers stopped (R70). -/
def abortHoming (s : State) : State :=
  setRunState .unhomed <| stopTimers <|
    s.modCsq fun c => { c with actuators := Actuators.off, armCertain := false, phase := .none }

/-- ABORT of a turn in progress (R71). -/
def abortTurn (s : State) : State :=
  if armBetween s.csq.phase then
    faultMove .aborted ((drive Actuators.offKeepVacuum s).modCsq fun c => { c with armCertain := false })
  else
    endRun <| stopTimers <| endTurn (.fault .aborted) false false <| markUnsettled <|
      drive (fun _ => Actuators.off) s

/-- ABORT of a pass, a wait, a held run or a platen movement (R70, R71). -/
def abortRun (s : State) : State :=
  endRun <| stopTimers <| closeSettleScope <| drive (fun _ => Actuators.off) <| markUnsettled <|
    stopCapture .aborted s

/-- ABORT, as its rules divide it (R70, R71). -/
def abortNow (s : State) : State :=
  if s.csq.runState = .homing then abortHoming (stopCapture .aborted s)
  else if s.csq.turn.isSome then abortTurn (stopCapture .aborted s)
  else abortRun s

/-- The turn and platen phases that drive an actuator (R73). -/
def drivesActuator : Phase → Bool
  | .platenUp => true
  | .lift => true
  | .grip => true
  | .carry => true
  | .reverseCarry => true
  | .release => true
  | .returning => true
  | .platenDown => true
  | _ => false

/-- The phases in which a trip leaves the vacuum on (R73). -/
def leafHangs : Phase → Bool
  | .carry => true
  | .reverseCarry => true
  | _ => false

/-- GRD's flags at a trip (R73). -/
def tripGuard (interrupted : Bool) (s : State) : State :=
  s.modGrd fun _ => { latch := true, readSeen := false, interrupted := interrupted }

/-- A turn in progress ends with result GUARD, with the condition TURN_FAULT (R74). -/
def tripTurn (s : State) : State :=
  if s.csq.turn.isSome then setCond .turnFault (endTurn (.fault .guard) true false s) else s

/-- The guard trips (R73, R74): the shot, the pass and the turn end, every drive but a vacuum holding a leaf
goes off, CSQ is in GUARDED, and the condition and the event are reported. -/
def trip (interrupted : Bool) (s : State) : State :=
  let s1 := tripTurn (markUnsettled (stopCapture .guard (tripGuard interrupted s)))
  let s2 := drive (fun a => if leafHangs s.csq.phase then a.offKeepVacuum else Actuators.off)
    (closeSettleScope s1)
  let s3 := (dropRun (setRunState .guarded s2)).modCsq fun c =>
    { c with faultKind := some .guard, armCertain := c.armCertain && !interrupted }
  event .guardTrips (setCond .guard s3)

/-- Whether CSQ drives or runs something that an intrusion must stop (R73). -/
def tripsNow (s : State) : Bool :=
  s.settings.guardEnable &&
    (s.csq.runState == .homing || (s.csq.runState == .running && s.csq.phase != .awaitHand))

/-- Whether a trip now interrupts a motion (R73). -/
def motionNow (s : State) : Bool := s.csq.runState == .homing || drivesActuator s.csq.phase

/-- The hand confirmation (R56): the position moves, HAND_TURNED is set, and PLATEN_DOWN is entered; with guard
enable on and the zone intruded the guard trips there, with nothing interrupted (R75). -/
def handConfirm (s : State) : State :=
  match s.csq.turn with
  | none => s
  | some t =>
    let s1 := s.modVolume (moveByTurn t.direction t.leaf true)
    if zoneClear s then enterPlatenDown s1 else trip false s1

end Sys2Proof.Machine
end

