-- ==== Sys2Proof/Machine/Link.lean ====
section
/-! DEFINITION. The link interface's own operations (chapter 10): check errors and drops, the receiver, the
receive slots, requests of the wrong size, and what every kind of reset does. -/

namespace Sys2Proof.Machine

/-- A rise of the check-error count (R143): the count, LINK_ERROR and the check-error-seen mark. -/
def checkError (s : State) : State :=
  setCond .linkError <| s.modLif fun l =>
    { l with checkErrors := satSucc 65535 l.checkErrors, checkSeen := true,
             checkSince := l.checkSince || sendingReply l }

/-- A frame dropped for want of a slot (R144). -/
def dropFrame (s : State) : State :=
  setCond .linkError <| s.modLif fun l =>
    { l with drops := satSucc 65535 l.drops, dropSeen := true, dropSince := l.dropSince || sendingReply l }

/-- The older request, when its handling is due and its body is the wrong size for its KIND, is answered
LENGTH (R145). -/
def serveLength (s : State) : State :=
  match s.lif.slots with
  | r :: _ =>
    if !s.lif.handled && s.lif.outbox.isEmpty && decodeRequest r.kind r.body == .badLength then
      s.modLif (addReply .badLength (r.kind + 0x80#8) .length [] false)
    else s
  | [] => s

/-- A complete frame is offered to the two receive slots (R144). -/
def offerFrame (r : LinkRequest) (s : State) : State :=
  if s.lif.slots.length < 2 then serveLength (s.modLif fun l => { l with slots := l.slots ++ [r] })
  else dropFrame s

/-- A frame collected whole: with its CHECK right it is complete, otherwise it is a check error (R143). -/
def receiveFrame (tag kind : Byte) (body : List Byte) (check : BitVec 16) (s : State) : State :=
  if check = frameCheck tag kind body then offerFrame { tag := tag, kind := kind, body := body } s
  else checkError s

/-- The receiver hunts again (R143). -/
def hunt (s : State) : State := s.modLif fun l => { l with receiver := .hunting, gap := none }

/-- The receiver goes on with its assembly; the next byte must follow within 20 ms (R143): the timer expires
when more than that has passed. -/
def assemble (r : Receiver) (s : State) : State :=
  s.modLif fun l => { l with receiver := r, gap := some (startTimer 20001) }

/-- The bytes from TAG to the second CHECK byte taken as a frame (R143). -/
def receiveBytes (len : Nat) (bytes : List Byte) (s : State) : State :=
  match bytes with
  | tag :: kind :: rest =>
    receiveFrame tag kind (rest.take (len - 2))
      (.ofNat 16 (match rest.drop (len - 2) with | [hi, lo] => hi.toNat * 256 + lo.toNat | _ => 0)) s
  | _ => checkError s

/-- A received byte, as the receiver stands (R143). -/
def receiveByte (b : Byte) (s : State) : State :=
  match s.lif.receiver with
  | .hunting => if b = 0xA5#8 then assemble .awaitLen s else s
  | .awaitLen =>
    if b.toNat < 2 ∨ 250 < b.toNat then checkError (hunt s) else assemble (.collecting b.toNat []) s
  | .collecting len bytes =>
    if bytes.length + 1 < len + 2 then assemble (.collecting len (bytes ++ [b])) s
    else receiveBytes len (bytes ++ [b]) (hunt s)

/-- What the store holds once a reset has struck: a save cut short leaves a check value that does not agree
(R152). -/
def storeAfter (s : State) : Option Settings := if saving s then none else s.sto.stored

/-- Every kind of reset (R150): each block takes its reset values, the settings are loaded from the store or
defaulted (R151), the straps are read (R143), and RESET_SEEN makes a notice due (R150). The commands
waiting and the free-value counter are no part of the machine and stay (log 31). -/
def resetAll (cause : ResetCause) (straps : BitVec 2) (s : State) : State :=
  let stored := storeAfter s
  let agreed := stored.isSome
  { State.reset with
    lif := { State.reset.lif with
      tx := none, noticeDue := true, straps := straps, cause := cause
      latched := condWord .resetSeen ||| condIf (!agreed) .settingsDefaulted }
    settings := stored.getD factorySettings
    sampling := Sampling.reset (stored.getD factorySettings).debounce
    sto := { stored := stored, save := none, agreed := agreed }
    pending := s.pending
    freeReads := s.freeReads }

/-- The reply being sent has been sent whole (R145): its marks are cleared but for what was seen since it
began (log 6), its request's slot is freed, and a RESET takes effect, at which the strap pins are read anew: their
levels are a free value (R143, R150, log 13). -/
def replyFinished (s : State) : State :=
  match s.lif.outbox with
  | r :: rest =>
    let s1 := s.modLif fun l =>
      { l with
        tx := none, outbox := rest
        slots := if r.fromSlot then l.slots.tail else l.slots
        handled := if r.fromSlot then false else l.handled
        dropSeen := l.dropSince, checkSeen := l.checkSince, dropSince := false, checkSince := false }
    if r.resets then (resetAll .request (Config.strapPins s.freeReads) s1).setFreeReads (s.freeReads + 1) else serveLength s1
  | [] => s.modLif fun l => { l with tx := none }

end Sys2Proof.Machine
end

