-- ==== Sys2Proof/Machine/VolumeRequests.lean ====
section
/-! DEFINITION. The requests of the volume accounting unit at an opening (chapter 1), SET CEILINGS and READ
DOSE (chapter 6). -/

namespace Sys2Proof.Machine

/-- UNHOMED, DISARMED or ARMED: no run, no homing, no fault. -/
def standing (s : State) : Bool :=
  s.csq.runState == .unhomed || s.csq.runState == .disarmed || s.csq.runState == .armed

/-- OPEN VOLUME (R2, R3): the reply carries the ceilings set. -/
def openVolumeAnswer (shelfMark : List Byte) (job : BitVec 32) (leafCount : BitVec 16) (handling : Byte)
    (sideCeiling : BitVec 32) (volumeCeiling : BitVec 48) (s : State) : Answer :=
  if !standing s then refuse .state s
  else if s.volume.isSome then refuse .state s
  else if previewing s then refuse .busy s
  else if !shelfMarkOk shelfMark then refuse .range s
  else if leafCount.toNat < 1 ∨ 2000 < leafCount.toNat then refuse .range s
  else
    match handlingOf handling with
    | none => refuse .range s
    | some cls =>
      let side := ceilingOr 5000000 sideCeiling.toNat
      let whole := ceilingOr 2000000000 volumeCeiling.toNat
      accept (num 4 side ++ num 6 whole)
        (s.setVolume (some (newVolume shelfMark job.toNat leafCount.toNat cls side whole)))

def execOpenVolume (shelfMark : List Byte) (job : BitVec 32) (leafCount : BitVec 16) (handling : Byte)
    (sideCeiling : BitVec 32) (volumeCeiling : BitVec 48) (s : State) : Host.Outcome State Fault Refusal :=
  respond (.openVolume shelfMark job leafCount handling sideCeiling volumeCeiling) s
    (openVolumeAnswer shelfMark job leafCount handling sideCeiling volumeCeiling s)

/-- CLOSE VOLUME (R4). -/
def execCloseVolume (s : State) : Host.Outcome State Fault Refusal :=
  respond .closeVolume s <|
    if !standing s then refuse .busy s
    else if s.volume.isNone then refuse .state s
    else if previewing s then refuse .busy s
    else accept [] (s.setVolume none)

/-- QUERY VOLUME (R6). -/
def execQueryVolume (s : State) : Host.Outcome State Fault Refusal :=
  respond .queryVolume s (accept (encVolume s.volume) s)

/-- DEFINE SPAN (R8). -/
def defineSpanAnswer (first count : BitVec 16) (style : Byte) (start : BitVec 16) (s : State) : Answer :=
  match s.volume with
  | none => refuse .state s
  | some v =>
    match styleOf style with
    | none => refuse .range s
    | some st =>
      let p : Span := { first := first.toNat, count := count.toNat, style := st, start := start.toNat }
      if p.count < 1 then refuse .range s
      else if p.first < 1 ∨ v.leafCount < p.first ∨ v.leafCount < p.first + p.count - 1 then refuse .range s
      else if 65535 < lastNumber p then refuse .range s
      else if v.spans.any (overlaps p) then refuse .range s
      else if 32 ≤ v.spans.length then refuse .full s
      else accept [] (s.setVolume (some { v with spans := insertSpan p v.spans }))

def execDefineSpan (first count : BitVec 16) (style : Byte) (start : BitVec 16) (s : State) :
    Host.Outcome State Fault Refusal :=
  respond (.defineSpan first count style start) s (defineSpanAnswer first count style start s)

/-- DELETE SPAN (R9). -/
def deleteSpanAnswer (first : BitVec 16) (s : State) : Answer :=
  match s.volume with
  | none => refuse .state s
  | some v =>
    if v.spans.any (fun p => p.first == first.toNat) then
      accept [] (s.setVolume (some { v with spans := v.spans.filter fun p => p.first != first.toNat }))
    else refuse .range s

def execDeleteSpan (first : BitVec 16) (s : State) : Host.Outcome State Fault Refusal :=
  respond (.deleteSpan first) s (deleteSpanAnswer first s)

/-- QUERY SPAN (R9). -/
def querySpanAnswer (index : Byte) (s : State) : Answer :=
  match s.volume with
  | none => refuse .state s
  | some v =>
    match v.spans[index.toNat]? with
    | none => refuse .range s
    | some p => accept (encSpan p) s

def execQuerySpan (index : Byte) (s : State) : Host.Outcome State Fault Refusal :=
  respond (.querySpan index) s (querySpanAnswer index s)

/-- A side action of MARK LEAF on a side record: KEEP leaves it (R14). -/
def applyAction (action : Option CaptureState) (r : SideRecord) : SideRecord :=
  match action with
  | some c => { r with capture := c }
  | none => r

/-- A leaf record after a taken MARK LEAF (R14). -/
def markedLeaf (o : Option Override) (recto verso : Option CaptureState) (l : LeafRecord) : LeafRecord :=
  { l with
    override := o.getD l.override, turnFaulted := false
    recto := l.recto.map (applyAction recto), verso := l.verso.map (applyAction verso) }

/-- MARK LEAF (R14): the reply carries the leaf record after the change. -/
def markLeafAnswer (leaf : BitVec 16) (override recto verso : Byte) (s : State) : Answer :=
  match s.volume with
  | none => refuse .state s
  | some v =>
    match v.leaves[leaf.toNat]? with
    | none => refuse .range s
    | some l =>
      match overrideActionOf override, sideActionOf recto, sideActionOf verso with
      | some o, some r, some w =>
        if (leaf.toNat = 0 ∧ r ≠ none) ∨ (leaf.toNat = v.leafCount + 1 ∧ w ≠ none) then refuse .range s
        else accept (encLeaf v leaf.toNat (markedLeaf o r w l))
          (s.setVolume (some (modLeaf leaf.toNat (markedLeaf o r w) v)))
      | _, _, _ => refuse .range s

def execMarkLeaf (leaf : BitVec 16) (override recto verso : Byte) (s : State) :
    Host.Outcome State Fault Refusal :=
  respond (.markLeaf leaf override recto verso) s (markLeafAnswer leaf override recto verso s)

/-- QUERY LEAF (R15). -/
def queryLeafAnswer (leaf : BitVec 16) (s : State) : Answer :=
  match s.volume with
  | none => refuse .state s
  | some v =>
    match v.leaves[leaf.toNat]? with
    | none => refuse .range s
    | some l => accept (encLeaf v leaf.toNat l) s

def execQueryLeaf (leaf : BitVec 16) (s : State) : Host.Outcome State Fault Refusal :=
  respond (.queryLeaf leaf) s (queryLeafAnswer leaf s)

/-- The position set to an opening, at level 0 (R16, R17). -/
def placeAt (k : Nat) (s : State) : State := s.modVolume fun v => { v with position := .opening k }

/-- SET POSITION (R17): a boundary of preview periods (R89). -/
def setPositionAnswer (opening : BitVec 16) (s : State) : Answer :=
  if s.csq.runState ≠ .disarmed ∧ s.csq.runState ≠ .armed then refuse .state s
  else
    match s.volume with
    | none => refuse .state s
    | some v =>
      if level v ≠ 0 then refuse .state s
      else if v.leafCount < opening.toNat then refuse .range s
      else accept [] (atBoundary (placeAt opening.toNat) s)

def execSetPosition (opening : BitVec 16) (s : State) : Host.Outcome State Fault Refusal :=
  respond (.setPosition opening) s (setPositionAnswer opening s)

/-- SET MARK (R18). -/
def setMarkAnswer (mark enabled cls : Byte) (first last : BitVec 16) (s : State) : Answer :=
  match s.volume with
  | none => refuse .state s
  | some v =>
    if s.csq.runState = .running then refuse .busy s
    else
      match index4 mark, markClassOf cls with
      | some n, some c =>
        if last.toNat < first.toNat ∨ v.leafCount + 1 < last.toNat then refuse .range s
        else accept [] (s.setVolume (some { v with
          marks := v.marks.set n { enabled := looseBoolOf enabled, cls := c, first := first.toNat,
                                   last := last.toNat } }))
      | _, _ => refuse .range s

def execSetMark (mark enabled cls : Byte) (first last : BitVec 16) (s : State) :
    Host.Outcome State Fault Refusal :=
  respond (.setMark mark enabled cls first last) s (setMarkAnswer mark enabled cls first last s)

/-- CLEAR MARK (R18). -/
def clearMarkAnswer (mark : Byte) (s : State) : Answer :=
  match s.volume with
  | none => refuse .state s
  | some v =>
    if s.csq.runState = .running then refuse .busy s
    else
      match index4 mark with
      | some n => accept [] (s.setVolume (some { v with marks := v.marks.set n Mark.cleared }))
      | none => refuse .range s

def execClearMark (mark : Byte) (s : State) : Host.Outcome State Fault Refusal :=
  respond (.clearMark mark) s (clearMarkAnswer mark s)

/-- QUERY MARKS (R18). -/
def execQueryMarks (s : State) : Host.Outcome State Fault Refusal :=
  respond .queryMarks s <|
    match s.volume with
    | none => refuse .state s
    | some v => accept (v.marks.toList.map encMark).flatten s

/-- The ceilings a SET CEILINGS leaves (R104): a field of 0 keeps a ceiling, and one below what has been
received is raised to it. -/
def withCeilings (side whole : Nat) (v : Volume) : Volume :=
  { v with
    sideCeiling := if side = 0 then v.sideCeiling else max side v.peak
    volumeCeiling := if whole = 0 then v.volumeCeiling else max whole v.accumulator }

/-- SET CEILINGS (R104): the reply carries the ceilings in force and a raised mark for each, taken after the
boundary's posting (R89). -/
def setCeilingsAnswer (side : BitVec 32) (whole : BitVec 48) (s : State) : Answer :=
  match s.volume, s.light with
  | none, _ => refuse .state s
  | some _, .flash _ => refuse .busy s
  | some _, _ =>
    let s' := atBoundary (fun t => t.modVolume (withCeilings side.toNat whole.toNat)) s
    match s'.volume with
    | some v =>
      accept (num 4 v.sideCeiling ++ num 6 v.volumeCeiling ++
        bit (side != 0 && decide (side.toNat < v.peak)) ++
        bit (whole != 0 && decide (whole.toNat < v.accumulator))) s'
    | none => accept [] s'

def execSetCeilings (side : BitVec 32) (whole : BitVec 48) (s : State) :
    Host.Outcome State Fault Refusal :=
  respond (.setCeilings side whole) s (setCeilingsAnswer side whole s)

/-- READ DOSE (R105). -/
def execReadDose (s : State) : Host.Outcome State Fault Refusal :=
  respond .readDose s (accept (encDose s.volume) s)

end Sys2Proof.Machine
end

