-- ==== Sys2Proof/Machine/InsertRequests.lean ====
section
/-! DEFINITION. The requests of a detour (chapter 2). -/

namespace Sys2Proof.Machine

/-- ARMED or HELD: where a detour is entered, walked and left (R24, R27, R28). -/
def armedOrHeld (s : State) : Bool := s.csq.runState == .armed || s.csq.runState == .held

/-- An entry carried out at once (R25). -/
def enterNow (half : Half) (sides : Nat) (v : Volume) (s : State) : State :=
  handOverDetour true false (newFrame v (parentHere v half) sides)
    (s.modVolume fun w => pushFrame (parentHere w half) sides (markInserts half w))

/-- The content of a taken entry's reply: ordinal, first pool index, new position (R25). -/
def encEntry (s : State) : List Byte :=
  match s.volume.bind fun v => (v.frames.getLast?).map fun f => (v, f) with
  | some (v, f) => num 1 f.ordinal ++ num 2 f.firstPool ++ encPosition v
  | none => []

/-- ENTER INSERT (R24 to R26): deferred at level 4, where the preview period goes on (log 42), else carried out at a
boundary of preview periods. -/
def enterInsertAnswer (half sides : Byte) (s : State) : Answer :=
  match s.volume with
  | none => refuse .state s
  | some v =>
    if !armedOrHeld s then refuse .state s
    else if passSuspended s then refuse .busy s
    else if sides.toNat < 1 ∨ 32 < sides.toNat then refuse .range s
    else if level v = 0 ∧ halfOf half = none then refuse .range s
    else if s.rq.holding.isSome then refuse .full s
    else if 64 ≤ v.frames.length ∨ poolFree v < sides.toNat then refuse .full s
    else if 4 ≤ level v then
      if v.deferred.isSome then refuse .full s
      else { result := .deferred, content := [],
             state := s.setVolume (some { v with deferred := some sides.toNat }) }
    else
      let s' := atBoundary (enterNow ((halfOf half).getD .left) sides.toNat v) s
      accept (encEntry s') s'

def execEnterInsert (half sides : Byte) (s : State) : Host.Outcome State Fault Refusal :=
  respond (.enterInsert half sides) s (enterInsertAnswer half sides s)

/-- The position moved to an insert side, at a boundary of preview periods (R27, R89). -/
def advanceTo (p : Position) (s : State) : State :=
  atBoundary (fun t => t.modVolume fun v => { v with position := p }) s

/-- The current position, where a volume is open. -/
def encHere (s : State) : List Byte := (s.volume.map encPosition).getD []

/-- ADVANCE (R27). -/
def advanceAnswer (s : State) : Answer :=
  match s.volume with
  | none => refuse .state s
  | some v =>
    if !armedOrHeld s then refuse .state s
    else if level v = 0 then refuse .state s
    else if passSuspended s then refuse .busy s
    else
      match advanced v with
      | none => refuse .range s
      | some p => accept (encHere (advanceTo p s)) (advanceTo p s)

def execAdvance (s : State) : Host.Outcome State Fault Refusal :=
  respond .advance s (advanceAnswer s)

/-- The frame the position lies in. -/
def currentFrame (v : Volume) : Option InsertFrame :=
  match v.position with
  | .insert f _ => frameOf v f
  | .opening _ => none

/-- The deferred entry carried out against the restored position (R28). -/
def enterDeferred (sides : Nat) (s : State) : State :=
  match s.volume with
  | none => s
  | some v =>
    handOverDetour true true (newFrame v (parentHere v .left) sides)
      (s.modVolume fun w => { pushFrame (parentHere w .left) sides w with deferred := none })

/-- The detour's current level left: the position is restored, its LEAVE record is handed over, and a deferred
entry is carried out (R28). -/
def leaveNow (v : Volume) (s : State) : State :=
  let s1 := s.modVolume popFrame
  let s2 := match currentFrame v with
    | some f => handOverDetour false false f s1
    | none => s1
  match v.deferred with
  | some n => enterDeferred n s2
  | none => s2

/-- LEAVE INSERT (R28). -/
def leaveInsertAnswer (s : State) : Answer :=
  match s.volume with
  | none => refuse .state s
  | some v =>
    if !armedOrHeld s then refuse .state s
    else if level v = 0 then refuse .state s
    else if passSuspended s then refuse .busy s
    else if s.rq.holding.isSome then refuse .full s
    else if v.deferred.isSome ∧ s.settings.capacity ≤ s.rq.fifo.length then refuse .full s
    else accept (encHere (atBoundary (leaveNow v) s)) (atBoundary (leaveNow v) s)

def execLeaveInsert (s : State) : Host.Outcome State Fault Refusal :=
  respond .leaveInsert s (leaveInsertAnswer s)

/-- QUERY INSERT (R34). -/
def queryInsertAnswer (frame side : Byte) (s : State) : Answer :=
  match s.volume with
  | none => refuse .state s
  | some v =>
    match frameOf v frame.toNat with
    | none => refuse .range s
    | some f =>
      if f.sides ≤ side.toNat then refuse .range s
      else
        match sideAt v (.insert f.ordinal side.toNat) with
        | some r => accept (encInsert v f r) s
        | none => refuse .range s

def execQueryInsert (frame side : Byte) (s : State) : Host.Outcome State Fault Refusal :=
  respond (.queryInsert frame side) s (queryInsertAnswer frame side s)

end Sys2Proof.Machine
end

