-- ==== Sys2Proof/Machine/SequencerRequests.lean ====
section
/-! DEFINITION. The requests of the cradle sequencer (chapters 3 and 4), SET DEBOUNCE (R35), and the guard
unit's requests (section 4.5). -/

namespace Sys2Proof.Machine

/-- The check a setting request makes first: refused BUSY during a save (R152). -/
def unlessSaving (s : State) (a : Answer) : Answer := if saving s then refuse .busy s else a

/-- A new debounce period in ms: the next sample of every input falls one new period after the last one (R35), and
where more than that has already passed it falls at once (log 10). -/
def retime (period : Nat) (s : State) : State :=
  s.modSampling fun x =>
    { x with timer := { figure := period * 1000, left := period * 1000 - ranFor x.timer } }

/-- SET DEBOUNCE (R35): the reply carries the period taken. -/
def execSetDebounce (period : Byte) (s : State) : Host.Outcome State Fault Refusal :=
  respond (.setDebounce period) s <| unlessSaving s <|
    let taken := clamp 1 50 period.toNat
    accept (num 1 taken) <| retime taken <| s.modSettings fun c => { c with debounce := taken }

/-- A taken HOME: preview ends, and homing begins with its first step (R38 to R40). -/
def beginHoming (s : State) : State :=
  enterReturn (setRunState .homing (drive (fun _ => Actuators.off) (endPreview s)))

/-- HOME (R39). -/
def homeAnswer (s : State) : Answer :=
  if s.csq.runState = .guarded then refuse .guard s
  else if s.csq.runState ≠ .unhomed ∧ s.csq.runState ≠ .disarmed then refuse .state s
  else if !zoneClear s then refuse .guard s
  else if saving s then refuse .busy s
  else accept [] (beginHoming s)

def execHome (s : State) : Host.Outcome State Fault Refusal := respond .home s (homeAnswer s)

/-- ARM (R41). -/
def armAnswer (s : State) : Answer :=
  if s.csq.runState = .guarded then refuse .guard s
  else if s.csq.runState ≠ .disarmed then refuse .state s
  else if s.volume.isNone then refuse .state s
  else if saving s then refuse .busy s
  else accept [] (setRunState .armed s)

def execArm (s : State) : Host.Outcome State Fault Refusal := respond .arm s (armAnswer s)

/-- What a DISARM leaves: UNHOMED from FAULTED with the arm not certain, else DISARMED (R42). -/
def disarmedState (s : State) : RunState :=
  if s.csq.runState = .faulted ∧ s.csq.armCertain = false then .unhomed else .disarmed

/-- A taken DISARM (R42). -/
def disarmNow (s : State) : State :=
  (dropRun (setRunState (disarmedState s)
      (drive (fun _ => Actuators.off) (abandonPass (allDark s))))).modCsq
    fun c => { c with unsettled := false, faultKind := none, retries := 0 }

/-- DISARM (R42). -/
def disarmAnswer (s : State) : Answer :=
  match s.csq.runState with
  | .armed => accept [] (disarmNow s)
  | .held => accept [] (disarmNow s)
  | .faulted => accept [] (disarmNow s)
  | .running => refuse .busy s
  | .homing => refuse .busy s
  | .guarded => refuse .guard s
  | .unhomed => refuse .state s
  | .disarmed => refuse .state s

def execDisarm (s : State) : Host.Outcome State Fault Refusal := respond .disarm s (disarmAnswer s)

/-- A plan is present, active or staged (R43, R46). -/
def planPresent (s : State) : Bool := s.spu.active.isSome || s.spu.staged.isSome

/-- A taken RUN: a pass, or with SKIP_FIRST a turn from its BEFORE_TURN evaluation (R43). -/
def beginContinuous (skipFirst : Bool) (s : State) : State :=
  let s' := beginRun .continuous (endPreview s)
  if skipFirst then beforeTurn s' else startPass s'

/-- RUN (R43). -/
def runAnswer (flags : Byte) (s : State) : Answer :=
  if s.csq.runState = .guarded then refuse .guard s
  else if s.csq.runState ≠ .armed then refuse .state s
  else if !zoneClear s then refuse .guard s
  else
    match s.volume with
    | none => refuse .state s
    | some v =>
      if level v ≠ 0 then refuse .state s
      else if !planPresent s then refuse .state s
      else if flagBit flags ∧ underlying v = v.leafCount then refuse .range s
      else accept [] (beginContinuous (flagBit flags) s)

def execRun (flags : Byte) (s : State) : Host.Outcome State Fault Refusal :=
  respond (.run flags) s (runAnswer flags s)

/-- TURN (R45). -/
def turnAnswer (direction : Byte) (s : State) : Answer :=
  if s.csq.runState = .guarded then refuse .guard s
  else if s.csq.runState ≠ .armed then refuse .state s
  else if !zoneClear s then refuse .guard s
  else
    match s.volume with
    | none => refuse .state s
    | some v =>
      if level v ≠ 0 then refuse .state s
      else
        match directionOf direction with
        | none => refuse .range s
        | some d =>
          if leafToCarry v d = none then refuse .range s
          else accept [] (awaitTurn d (beginRun .oneTurn (endPreview s)))

def execTurn (direction : Byte) (s : State) : Host.Outcome State Fault Refusal :=
  respond (.turn direction) s (turnAnswer direction s)

/-- The held run's reasons and resume point set aside by a CAPTURE (R46, R68). -/
def setAsideHeld (c : Csq) : Csq :=
  match c.runState, c.resumePoint with
  | .held, some p =>
    { c with setAside := some { reasons := c.reasons, point := p }, reasons := Reasons.empty,
             resumePoint := none }
  | _, _ => c

/-- CAPTURE (R46). -/
def captureAnswer (s : State) : Answer :=
  if s.csq.runState = .guarded then refuse .guard s
  else if s.csq.runState ≠ .armed ∧ s.csq.runState ≠ .held then refuse .state s
  else if passSuspended s then refuse .busy s
  else if !zoneClear s then refuse .guard s
  else if s.volume.isNone then refuse .state s
  else if !planPresent s then refuse .state s
  else accept [] (startPass (beginRun .oneCapture ((endPreview s).modCsq setAsideHeld)))

def execCapture (s : State) : Host.Outcome State Fault Refusal := respond .capture s (captureAnswer s)

/-- The checks of PLATEN UP and PLATEN DOWN (R47). -/
def platenAnswer (s after : State) : Answer :=
  if s.csq.runState = .guarded then refuse .guard s
  else if s.csq.runState ≠ .armed then refuse .state s
  else if !zoneClear s then refuse .guard s
  else accept [] after

/-- PLATEN UP (R47); no turn is in hand, so no gauge is read. -/
def execPlatenUp (s : State) : Host.Outcome State Fault Refusal :=
  respond .platenUp s (platenAnswer s (enterPlatenUp .single (beginRun .platenMove (endPreview s))))

/-- PLATEN DOWN (R47), which opens a settle scope of its own (R138). -/
def execPlatenDown (s : State) : Host.Outcome State Fault Refusal :=
  respond .platenDown s
    (platenAnswer s (enterPlatenDown (openSettleScope (beginRun .platenMove (endPreview s)))))

/-- A taken RECOVER (R60). -/
def recoverNow (opening : Nat) (s : State) : State :=
  let s1 := (placeAt opening s).modCth fun c => { c with recording := true }
  setRunState (if s.csq.armCertain then .armed else .unhomed)
    (s1.modCsq fun c => { c with actuators := Actuators.off, faultKind := none, retries := 0 })

/-- RECOVER (R60): the reply carries the position and the run state after the recovery. -/
def recoverAnswer (opening : BitVec 16) (s : State) : Answer :=
  if s.csq.runState ≠ .faulted then refuse .state s
  else if s.volume.any (fun v => level v != 0) then refuse .state s
  else if s.volume.any (fun v => decide (v.leafCount < opening.toNat)) then refuse .range s
  else
    let s' := recoverNow opening.toNat s
    accept (item 4 (s'.volume.map encPosition) ++ num 1 (runStateCode s'.csq.runState)) s'

def execRecover (opening : BitVec 16) (s : State) : Host.Outcome State Fault Refusal :=
  respond (.recover opening) s (recoverAnswer opening s)

/-- SET TURN TIMING (R61): the reply carries the values taken. -/
def execSetTurnTiming (timing : TimingFields) (s : State) : Host.Outcome State Fault Refusal :=
  respond (.setTurnTiming timing) s <| unlessSaving s <|
    accept (encTiming (TurnTiming.taken timing))
      (s.modSettings fun c => { c with timing := TurnTiming.taken timing })

/-- QUERY TURN TIMING (R61). -/
def execQueryTurnTiming (s : State) : Host.Outcome State Fault Refusal :=
  respond .queryTurnTiming s (accept (encTiming s.settings.timing) s)

/-- SET STEP (R64). -/
def execSetStep (mode : Byte) (s : State) : Host.Outcome State Fault Refusal :=
  respond (.setStep mode) s <|
    match stepModeOf mode with
    | none => refuse .range s
    | some m => accept [] (s.modCsq fun c => { c with stepMode := m })

/-- What follows a RESUME, by the resume point (R67). -/
def continueFrom (p : ResumePoint) (s : State) : State :=
  match p with
  | .readyCheck => readyCheck s
  | .afterShot => nextShot s
  | .afterPass => beforeTurn s
  | .beforeTurn => awaitTurn .forward s
  | .afterSettle => startPass s

/-- A RESUME taken in HELD (R67). -/
def resumeHeld (pass : Bool) (s : State) : State :=
  let s1 := setRunState .running (endPreview s)
  let s2 := s1.modCsq fun c =>
    { c with reasons := Reasons.empty, resumePoint := none, passOnce := c.passOnce || pass }
  match s.csq.resumePoint with
  | some p => continueFrom p s2
  | none => s2

/-- RESUME (R67). -/
def resumeAnswer (flags : Byte) (s : State) : Answer :=
  match s.csq.runState with
  | .guarded => refuse .guard s
  | .running => if s.csq.phase = .awaitHand then accept [] (handConfirm s) else refuse .state s
  | .held =>
    if !zoneClear s then refuse .guard s
    else if 1 ≤ levelNow s ∧ !passSuspended s then refuse .state s
    else accept [] (resumeHeld (flagBit flags) s)
  | _ => refuse .state s

def execResume (flags : Byte) (s : State) : Host.Outcome State Fault Refusal :=
  respond (.resume flags) s (resumeAnswer flags s)

/-- A HALT taken in a continuous run (R69): at once before a turn that waits (log 23), else pending. -/
def haltRunning (s : State) : State :=
  match s.csq.awaiting with
  | some (.turn _) => endRun s
  | _ => s.modCsq fun c => { c with haltPending := true }

/-- HALT (R69): in HELD a suspended pass is abandoned and preview stays on. -/
def haltAnswer (s : State) : Answer :=
  match s.csq.runState with
  | .guarded => refuse .guard s
  | .running =>
    if s.csq.scope = some .continuous then accept [] (haltRunning s) else refuse .state s
  | .held => accept [] (endRun (abandonPass s))
  | _ => refuse .state s

def execHalt (s : State) : Host.Outcome State Fault Refusal := respond .halt s (haltAnswer s)

/-- ABORT (R70, R71). -/
def abortAnswer (s : State) : Answer :=
  match s.csq.runState with
  | .guarded => refuse .guard s
  | .running => accept [] (abortNow s)
  | .held => accept [] (abortNow s)
  | .homing => accept [] (abortNow s)
  | _ => refuse .state s

def execAbort (s : State) : Host.Outcome State Fault Refusal := respond .abort s (abortAnswer s)

/-! ### The guard unit -/

/-- SET GUARD ENABLE (R72). -/
def execSetGuardEnable (enable : Byte) (s : State) : Host.Outcome State Fault Refusal :=
  respond (.setGuardEnable enable) s <| unlessSaving s <|
    accept [] (s.modSettings fun c => { c with guardEnable := looseBoolOf enable })

/-- READ GUARD (R76): a set latch sets read-seen, and the reply carries it as it stands after. -/
def execReadGuard (s : State) : Host.Outcome State Fault Refusal :=
  let s' := s.modGrd fun g => { g with readSeen := g.readSeen || g.latch }
  respond .readGuard s (accept (encGuard s') s')

/-- A taken CLEAR GUARD (R77). -/
def clearGuardNow (s : State) : State :=
  let s1 := s.modGrd fun _ => { latch := false, readSeen := false, interrupted := false }
  setRunState (if s.grd.interrupted then .unhomed else .disarmed) <|
    s1.modCsq fun c =>
      { c with actuators := { c.actuators with vacuum := false }, faultKind := none, retries := 0 }

/-- CLEAR GUARD (R77): the reply carries the run state after the clear. -/
def clearGuardAnswer (s : State) : Answer :=
  if s.grd.latch ∧ s.grd.readSeen ∧ !zoneIntruded s then
    accept (num 1 (runStateCode (clearGuardNow s).csq.runState)) (clearGuardNow s)
  else refuse .guard s

def execClearGuard (s : State) : Host.Outcome State Fault Refusal :=
  respond .clearGuard s (clearGuardAnswer s)

end Sys2Proof.Machine
end

