-- ==== Sys2Proof/Machine/LightRequests.lean ====
section
/-! DEFINITION. The requests of the illumination controller (chapter 5) and of the shot plan unit
(chapter 7). -/

namespace Sys2Proof.Machine

/-- A calibration record as taken: each number clamped (R79). -/
def takenCalibration (illuminance : BitVec 32) (weight : BitVec 16) (coverage : Coverage)
    (flashLimit : BitVec 16) (enabled : Bool) : Calibration :=
  { illuminance := clamp 1 100000 illuminance.toNat, weight := clamp 0 8000 weight.toNat,
    coverage := coverage, flashLimit := clamp 1 2000 flashLimit.toNat, enabled := enabled }

/-- SET CALIBRATION (R79): the reply carries the record as taken. -/
def setCalibrationAnswer (channel : Byte) (illuminance : BitVec 32) (weight : BitVec 16) (coverage : Byte)
    (flashLimit : BitVec 16) (enabled : Byte) (s : State) : Answer :=
  if saving s then refuse .busy s
  else if s.csq.runState ≠ .unhomed ∧ s.csq.runState ≠ .disarmed then refuse .busy s
  else if previewing s then refuse .busy s
  else
    match index8 channel, coverageOf coverage, strictBoolOf enabled with
    | some n, some cov, some on =>
      let r := takenCalibration illuminance weight cov flashLimit on
      accept (encCalibration r) (s.modSettings fun c => { c with calibration := c.calibration.set n r })
    | _, _, _ => refuse .range s

def execSetCalibration (channel : Byte) (illuminance : BitVec 32) (weight : BitVec 16) (coverage : Byte)
    (flashLimit : BitVec 16) (enabled : Byte) (s : State) : Host.Outcome State Fault Refusal :=
  respond (.setCalibration channel illuminance weight coverage flashLimit enabled) s
    (setCalibrationAnswer channel illuminance weight coverage flashLimit enabled s)

/-- QUERY CALIBRATION (R79). -/
def execQueryCalibration (channel : Byte) (s : State) : Host.Outcome State Fault Refusal :=
  respond (.queryCalibration channel) s <|
    match index8 channel with
    | some n => accept (encCalibration (s.settings.calibration.get n)) s
    | none => refuse .range s

/-- A PREVIEW ON's lamp faults: a channel dropped for one sets LAMP_FAULT (R85). -/
def dropFaulted (drives : Eight Nat) (s : State) : State :=
  if nonempty (faultedSet drives s) then setCond .lampFault s else s

/-- The dose of the preview that a PREVIEW ON finds is posted (R85, R88). -/
def closeFound (s : State) : State :=
  match s.light with
  | .preview p => closePeriod p s
  | _ => s

/-- ILC enters PREVIEW, where it does not stand there already (R85, R139). -/
def enterPreview (wasOn : Bool) (s : State) : State := if wasOn then s else edge .previewOn true s

/-- A taken PREVIEW ON with its drive levels as taken (R85 to R87): the preview found is ended, the lit set is
formed, and the first period begins unless it is empty. -/
def previewOnAnswer (drives : Eight Nat) (s : State) : Answer :=
  let s1 := dropFaulted drives (closeFound s)
  let lit := litSet drives s1
  if nonempty lit then
    let limit := s.settings.previewLimit * 1000000
    let s2 := enterPreview (previewing s) s1
    let s3 := startPeriod lit drives limit limit s2
    accept (encDrives drives ++ set8 lit ++ bit (previewing s3) ++
      item 6 ((cutNow lit drives s2).map (num 6))) s3
  else
    let s2 := if previewing s then leavePreview s1 else s1
    accept (encDrives drives ++ set8 lit ++ bit false ++ item 6 none) s2

/-- PREVIEW ON (R85). -/
def execPreviewOn (drives : Eight (BitVec 16)) (s : State) : Host.Outcome State Fault Refusal :=
  respond (.previewOn drives) s <|
    match s.csq.runState with
    | .guarded => refuse .guard s
    | .running => refuse .busy s
    | .homing => refuse .busy s
    | .faulted => refuse .state s
    | _ => previewOnAnswer (drivesTaken drives) s

/-- PREVIEW OFF (R88). -/
def execPreviewOff (s : State) : Host.Outcome State Fault Refusal :=
  respond .previewOff s (accept [] (endPreview s))

/-- SET PREVIEW LIMIT (R91): the reply carries the value taken. -/
def execSetPreviewLimit (seconds : BitVec 16) (s : State) : Host.Outcome State Fault Refusal :=
  respond (.setPreviewLimit seconds) s <| unlessSaving s <|
    let taken := clamp 1 600 seconds.toNat
    accept (num 2 taken) (s.modSettings fun c => { c with previewLimit := taken })

/-- READ LIGHTS (R91). -/
def execReadLights (s : State) : Host.Outcome State Fault Refusal :=
  respond .readLights s (accept (encLights s) s)

/-! ### The shot plan unit -/

/-- LOAD PLAN (R108): the reply carries the plan as taken and whether a staged plan was overwritten. -/
def loadPlanAnswer (flags : Byte) (planId : BitVec 16) (shots : List ShotFields) (s : State) : Answer :=
  if shots.length < 1 ∨ 8 < shots.length then refuse .range s
  else
    match shotsTaken shots with
    | none => refuse .range s
    | some taken =>
      if s.spu.staged.isSome ∧ !flagBit flags then refuse .full s
      else
        let plan : Plan := { id := planId.toNat, shots := taken }
        accept (encPlan plan ++ bit s.spu.staged.isSome)
          (s.modSpu fun u => { u with staged := some plan })

def execLoadPlan (flags : Byte) (planId : BitVec 16) (shots : List ShotFields) (s : State) :
    Host.Outcome State Fault Refusal :=
  respond (.loadPlan flags planId shots) s (loadPlanAnswer flags planId shots s)

/-- QUERY PLAN (R109): an empty slot keeps the place of a plan id and a shot count (log 16). -/
def execQueryPlan (slot : Byte) (s : State) : Host.Outcome State Fault Refusal :=
  respond (.queryPlan slot) s <|
    match if slot = 0#8 then s.spu.active else s.spu.staged with
    | some p => accept (1#8 :: encPlan p) s
    | none => accept (0#8 :: zeros 3) s

/-- READ CAMERAS (R116). -/
def execReadCameras (s : State) : Host.Outcome State Fault Refusal :=
  respond .readCameras s (accept (encCameras s) s)

/-- SET CAMERA TIMING (R121): the reply carries the values taken. -/
def execSetCameraTiming (readyWait frameGrace : BitVec 16) (s : State) :
    Host.Outcome State Fault Refusal :=
  respond (.setCameraTiming readyWait frameGrace) s <| unlessSaving s <|
    let wait := clamp 10 10000 readyWait.toNat
    let grace := clamp 0 500 frameGrace.toNat
    accept (num 2 wait ++ num 2 grace)
      (s.modSettings fun c => { c with readyWait := wait, frameGrace := grace })

/-- QUERY CAMERA TIMING (R121). -/
def execQueryCameraTiming (s : State) : Host.Outcome State Fault Refusal :=
  respond .queryCameraTiming s (accept (num 2 s.settings.readyWait ++ num 2 s.settings.frameGrace) s)

end Sys2Proof.Machine
end

