-- ==== Sys2Proof/Machine/QueueRequests.lean ====
section
/-! DEFINITION. The requests of the result queue (chapter 8) and of the counters, the time base and the turn
history (chapter 9). -/

namespace Sys2Proof.Machine

/-- The stale timer stopped (R133). -/
def stopStale (s : State) : State := s.modRq fun q => { q with staleTimer := none }

/-- The head is removed: the held record moves to the tail, the next record reaches the head, and the stale
timer is restarted or stopped (R128). -/
def takeHead (rest : List Record) (s : State) : State :=
  let fifo := rest ++ s.rq.holding.toList
  let s1 := s.modRq fun q => { q with fifo := fifo, holding := none }
  match fifo with
  | h :: _ => restartStale (reachHead h s1)
  | [] => stopStale s1

/-- TAKE RESULT (R128). -/
def execTakeResult (s : State) : Host.Outcome State Fault Refusal :=
  respond .takeResult s <|
    match s.rq.fifo with
    | [] => accept (encResult none s) s
    | r :: rest => accept (encResult (some r) (takeHead rest s)) (takeHead rest s)

/-- PEEK RESULT (R129). -/
def execPeekResult (s : State) : Host.Outcome State Fault Refusal :=
  respond .peekResult s (accept (encResult s.rq.fifo.head? s) s)

/-- READ QUEUE (R129). -/
def execReadQueue (s : State) : Host.Outcome State Fault Refusal :=
  respond .readQueue s (accept (encQueue s) s)

/-- The queue emptied (R130): the numbering and the accumulated summary are kept. -/
def flushNow (s : State) : State :=
  stopStale (s.modRq fun q => { q with fifo := [], holding := none })

/-- FLUSH RESULTS (R130): the reply carries the number of records discarded. -/
def execFlushResults (s : State) : Host.Outcome State Fault Refusal :=
  respond .flushResults s <|
    if s.csq.runState = .running then refuse .busy s
    else accept (num 1 (s.rq.fifo.length + s.rq.holding.toList.length)) (flushNow s)

/-- SET QUEUE CAPACITY (R131). -/
def execSetQueueCapacity (capacity : Byte) (s : State) : Host.Outcome State Fault Refusal :=
  respond (.setQueueCapacity capacity) s <|
    if saving s then refuse .busy s
    else if capacity.toNat ≠ 32 ∧ capacity.toNat ≠ 64 then refuse .range s
    else if !s.rq.fifo.isEmpty || s.rq.holding.isSome then refuse .busy s
    else accept [] (s.modSettings fun c => { c with capacity := capacity.toNat })

/-- SET SUMMARY MODE (R132). -/
def execSetSummaryMode (mode : Byte) (s : State) : Host.Outcome State Fault Refusal :=
  respond (.setSummaryMode mode) s <|
    match summaryModeOf mode with
    | none => refuse .range s
    | some m => accept [] (s.modRq fun q => { q with mode := m })

/-- The flags of the record at the head; none with the FIFO empty (R132). -/
def headFlags (q : Rq) : BitVec 16 := (q.fifo.head?.map (·.flags)).getD 0#16

/-- CLEAR SUMMARY (R132). -/
def execClearSummary (s : State) : Host.Outcome State Fault Refusal :=
  respond .clearSummary s (accept [] (s.modRq fun q => { q with accumulated := headFlags q }))

/-- SET STALE INTERVAL (R133): the reply carries the value taken; 0 stops a running timer. -/
def execSetStaleInterval (seconds : Byte) (s : State) : Host.Outcome State Fault Refusal :=
  respond (.setStaleInterval seconds) s <| unlessSaving s <|
    let taken := min 60 seconds.toNat
    let s' := s.modSettings fun c => { c with staleInterval := taken }
    accept (num 1 taken) (if taken = 0 then stopStale s' else s')

/-! ### Counters, time base and history -/

/-- READ TIME (R135). -/
def execReadTime (s : State) : Host.Outcome State Fault Refusal :=
  respond .readTime s (accept (num 6 s.cth.timeBase) s)

/-- A counter replaced (R136). -/
def setCounterNow (n : CounterName) (k : Counter) (s : State) : State :=
  s.modCth fun c =>
    match n with
    | .a => { c with a := k }
    | .b => { c with b := k }

/-- SET COUNTER (R136): the reply carries the counter as set. -/
def execSetCounter (counter : Byte) (value : BitVec 32) (event : Byte) (edge threshold invert : Byte)
    (s : State) : Host.Outcome State Fault Refusal :=
  respond (.setCounter counter value event edge threshold invert) s <|
    match counterOf counter, counterEventOf event with
    | some n, some e =>
      let k : Counter :=
        { value := value.toNat, event := e, edge := looseBoolOf edge, threshold := threshold.toNat,
          invert := looseBoolOf invert, residue := 0 }
      accept (encCounter k) (setCounterNow n k s)
    | _, _ => refuse .range s

/-- READ COUNTERS (R136). -/
def execReadCounters (s : State) : Host.Outcome State Fault Refusal :=
  respond .readCounters s (accept (encCounter s.cth.a ++ encCounter s.cth.b) s)

/-- SET HISTORY ENABLE (R142): the reply carries the enable after it. -/
def execSetHistoryEnable (enable : Byte) (s : State) : Host.Outcome State Fault Refusal :=
  respond (.setHistoryEnable enable) s <|
    match strictBoolOf enable with
    | none => refuse .range s
    | some b => accept (bit b) (s.modCth fun c => { c with recording := b })

/-- READ HISTORY (R142). -/
def execReadHistory (s : State) : Host.Outcome State Fault Refusal :=
  respond .readHistory s (accept (encHistories s.cth) s)

end Sys2Proof.Machine
end

