-- ==== Sys2Proof/Machine/LinkRequests.lean ====
section
/-! DEFINITION. The requests of the link, the conditions, the auxiliary outputs, the identification and the
store, and the link's own events, the resets and the end of a save (chapter 10). -/

namespace Sys2Proof.Machine

/-- READ LINK (R144). -/
def execReadLink (s : State) : Host.Outcome State Fault Refusal :=
  respond .readLink s (accept (encLink s.lif) s)

/-- CLEAR LINK COUNTS (R144). -/
def execClearLinkCounts (s : State) : Host.Outcome State Fault Refusal :=
  respond .clearLinkCounts s (accept [] (s.modLif fun l => { l with drops := 0, checkErrors := 0 }))

/-- READ CONDITIONS (R147). -/
def execReadConditions (s : State) : Host.Outcome State Fault Refusal :=
  respond .readConditions s (accept (encStatus s) s)

/-- CLEAR CONDITIONS (R147): latched conditions alone; the reply carries the condition set after the clear. -/
def execClearConditions (mask : BitVec 32) (s : State) : Host.Outcome State Fault Refusal :=
  let s' := s.modLif fun l => { l with latched := l.latched &&& ~~~mask }
  respond (.clearConditions mask) s (accept (encConditions s') s')

/-- SET MASK (R148): the reply carries the mask as taken; a standing condition newly enabled makes a notice
due (R146). -/
def execSetMask (mask : BitVec 32) (s : State) : Host.Outcome State Fault Refusal :=
  let taken := mask &&& assignedPositions
  let gained := conditionSet s &&& taken &&& ~~~s.lif.mask != 0#32
  respond (.setMask mask) s <| accept (num 4 taken.toNat) <|
    s.modLif fun l => { l with mask := taken, noticeDue := l.noticeDue || gained }

/-- The outputs whose bits a four-bit mask names take a manual level (R149). -/
def setManual (mask : Byte) (high : Bool) (v : Four Bool) : Four Bool :=
  ⟨if mask.getLsbD 0 then high else v.c0, if mask.getLsbD 1 then high else v.c1,
   if mask.getLsbD 2 then high else v.c2, if mask.getLsbD 3 then high else v.c3⟩

/-- SET AUX (R149): the reply carries the four manual levels. -/
def execSetAux (mask : Byte) (s : State) : Host.Outcome State Fault Refusal :=
  let s' := s.modLmn fun l => { l with auxManual := setManual mask true l.auxManual }
  respond (.setAux mask) s (accept (encAux s'.lmn.auxManual) s')

/-- CLEAR AUX (R149). -/
def execClearAux (mask : Byte) (s : State) : Host.Outcome State Fault Refusal :=
  let s' := s.modLmn fun l => { l with auxManual := setManual mask false l.auxManual }
  respond (.clearAux mask) s (accept (encAux s'.lmn.auxManual) s')

/-- SET AUX SOURCE (R149); the save is checked first (log 20). -/
def execSetAuxSource (output source : Byte) (s : State) : Host.Outcome State Fault Refusal :=
  respond (.setAuxSource output source) s <| unlessSaving s <|
    match index4 output, auxSourceOf source with
    | some n, some src => accept [] (s.modSettings fun c => { c with auxSources := c.auxSources.set n src })
    | _, _ => refuse .range s

/-- IDENTIFY (R150). -/
def execIdentify (s : State) : Host.Outcome State Fault Refusal :=
  respond .identify s (accept (encIdentity s.lif) s)

/-- RESET (R145, R150): answered OK; it takes effect once the reply has been sent whole (REPLY_SENT). -/
def execReset (s : State) : Host.Outcome State Fault Refusal := respond .reset s (accept [] s)

/-- SAVE SETTINGS (R152): the working copies are captured. -/
def saveSettingsAnswer (s : State) : Answer :=
  if saving s then refuse .busy s
  else if s.csq.runState ≠ .unhomed ∧ s.csq.runState ≠ .disarmed then refuse .busy s
  else accept [] (s.modSto fun o => { o with save := some { captured := s.settings, timer := startMs 250 } })

def execSaveSettings (s : State) : Host.Outcome State Fault Refusal :=
  respond .saveSettings s (saveSettingsAnswer s)

/-- READ STORE (R152). -/
def execReadStore (s : State) : Host.Outcome State Fault Refusal :=
  respond .readStore s (accept (bit (saving s) ++ bit s.sto.agreed) s)

/-! ### Events of the link -/

/-- A request whose KIND is outside the assigned codes is handled: the reply is UNKNOWN, of KIND 0xFE (R145). A
code that is assigned is no such request (log 28). -/
def execUnknownKind (kind : Byte) (s : State) : Host.Outcome State Fault Refusal :=
  conclude s <|
    if assignedKind kind then s
    else s.modLif (addReply (.unknown kind) 0xFE#8 .unknown [] false)

/-- A frame taken whole from the link (R143, R144); a body above 248 bytes means a LEN out of range, and a
partial frame in assembly is abandoned (log 35). -/
def execFrameReceived (tag kind : Byte) (body : List Byte) (check : BitVec 16) (s : State) :
    Host.Outcome State Fault Refusal :=
  conclude s <|
    if 248 < body.length then checkError (hunt s) else receiveFrame tag kind body check (hunt s)

/-- More than 20 ms has passed since the last byte of a frame in assembly (R143). -/
def execFrameTimeout (s : State) : Host.Outcome State Fault Refusal :=
  conclude s <|
    match s.lif.gap with
    | some t => hunt (elapse t.left s)
    | none => s

/-- The reply being sent has been sent whole (R145). -/
def execReplySent (s : State) : Host.Outcome State Fault Refusal :=
  conclude s <|
    match s.lif.tx with
    | some t => if t.reply then replyFinished (elapse t.timer.left s) else s
    | none => s

/-- The notice being sent has been sent whole (R146). -/
def execNoticeSent (s : State) : Host.Outcome State Fault Refusal :=
  conclude s <|
    match s.lif.tx with
    | some t =>
      if t.reply then s else (elapse t.timer.left s).modLif fun l => { l with tx := none }
    | none => s

/-- A byte received by the link's receiver (R143). -/
def execByteReceived (byte : Byte) (s : State) : Host.Outcome State Fault Refusal :=
  conclude s (receiveByte byte s)

/-! ### Resets and the store -/

/-- Power-on reset (R150). -/
def execPowerOn (straps : BitVec 2) (s : State) : Host.Outcome State Fault Refusal :=
  conclude s (resetAll .power straps s)

/-- Reset by the RESET input (R150). -/
def execResetPin (straps : BitVec 2) (s : State) : Host.Outcome State Fault Refusal :=
  conclude s (resetAll .pin straps s)

/-- Reset by a fall of the supply (R150). -/
def execSupplyFall (straps : BitVec 2) (s : State) : Host.Outcome State Fault Refusal :=
  conclude s (resetAll .supply straps s)

/-- The check value of a save has been written: the store holds the captured copies (R152). -/
def execSaveComplete (s : State) : Host.Outcome State Fault Refusal :=
  conclude s <|
    match s.sto.save with
    | some v => s.modSto fun o => { o with stored := some v.captured, save := none }
    | none => s

end Sys2Proof.Machine
end

