-- ==== Sys2Proof/Machine/Inputs.lean ====
section
/-! DEFINITION. The samples of the inputs (R35), their confirmed changes (R35, R36) and the exposure-end pulses
(R116), each with what its owner does. A confirmed change is taken as one whatever level stood before (log 9). -/

namespace Sys2Proof.Machine

/-! ### Samples (R35, R36, log 10) -/

/-- The switch-class inputs, in the order of R35's table. -/
def switchInputs : List SwitchInput :=
  [.pedal, .feedback .lift, .feedback .grip, .feedback .carryEnd, .feedback .release, .feedback .park,
   .feedback .platenUp, .feedback .platenDown, .pageMotion .left, .pageMotion .right, .lightCurtain,
   .cameraReady .left, .cameraReady .right, .lampFault 0, .lampFault 1, .lampFault 2, .lampFault 3,
   .lampFault 4, .lampFault 5, .lampFault 6, .lampFault 7]

/-- The confirmed level of an input, if it has one (R35, R36). -/
def levelOf (i : SwitchInput) (l : Lmn) : Option Bool :=
  match i with
  | .pedal => l.pedal
  | .feedback .lift => l.lift
  | .feedback .grip => l.grip
  | .feedback .carryEnd => l.carryEnd
  | .feedback .release => l.release
  | .feedback .park => l.park
  | .feedback .platenUp => l.platenUp
  | .feedback .platenDown => l.platenDown
  | .pageMotion .left => l.motionLeft
  | .pageMotion .right => l.motionRight
  | .lightCurtain => l.curtain
  | .cameraReady .left => l.readyLeft
  | .cameraReady .right => l.readyRight
  | .lampFault n => l.lamps.get n

/-- The first sample of an input that waits for its second (R35). -/
def firstSample (i : SwitchInput) (x : Sampling) : Option Bool := (x.waiting.find? (·.1 == i)).map (·.2)

/-- What a sample does of an input's first sample: one that differs from the confirmed level waits for its second,
and one that agrees with it, or confirms the level that waited, leaves nothing waiting (R35). With no confirmed level
yet a sample that differs from the one that waits takes its place: a starting level needs two in a row (R36, log 10). -/
def noteSample (i : SwitchInput) (b : Bool) (l : Lmn) (x : Sampling) : Sampling :=
  let others := x.waiting.filter (·.1 != i)
  { x with waiting := if levelOf i l = some b ∨ firstSample i x = some b then others else (i, b) :: others }

/-- Whether a sample is the second of two that agree on a level that is not the confirmed one (R35, R36). -/
def confirmsSample (i : SwitchInput) (b : Bool) (l : Lmn) (x : Sampling) : Bool :=
  decide (levelOf i l ≠ some b) && decide (firstSample i x = some b)

/-- The confirmed change of an input to a level (R35). -/
def changeEvent (g : Gauge) : SwitchInput → Bool → Instr
  | .pedal, true => .pedalPress
  | .pedal, false => .pedalRelease
  | .feedback .lift, true => .liftConfirmed g
  | .feedback .grip, true => .gripConfirmed g
  | .feedback .carryEnd, true => .carryEndConfirmed g
  | .feedback .release, true => .releaseConfirmed
  | .feedback .park, true => .parkConfirmed
  | .feedback .platenUp, true => .platenUpConfirmed g
  | .feedback .platenDown, true => .platenDownConfirmed
  | .feedback f, false => .feedbackInputDeasserted f
  | .pageMotion h, b => .pageMotionChange h b
  | .lightCurtain, true => .lightCurtainIntruded
  | .lightCurtain, false => .lightCurtainCleared
  | .cameraReady h, b => .cameraReadyChange h b
  | .lampFault n, true => .lampFaultAsserted n
  | .lampFault n, false => .lampFaultCleared n

/-- What a confirming sample delivers: a change, or the starting level of an input that had none (R35, R36). -/
def confirmation (g : Gauge) (i : SwitchInput) (b : Bool) (l : Lmn) : Instr :=
  if levelOf i l = none then .startingLevel i b else changeEvent g i b

/-- A sample of every input falls due, and the next one a debounce period later (R35). -/
def beginSamples (s : State) : State :=
  s.modSampling fun x => { x with timer := startMs s.settings.debounce, due := switchInputs }

/-! ### Confirmed levels -/

/-- A starting level, for an input that has none yet (R36). -/
def startLevel (old : Option Bool) (b : Bool) : Option Bool := some (old.getD b)

/-- The starting level of an input (R36): a level, not a change. -/
def takeStarting (input : SwitchInput) (b : Bool) (l : Lmn) : Lmn :=
  match input with
  | .pedal => { l with pedal := startLevel l.pedal b }
  | .feedback .lift => { l with lift := startLevel l.lift b }
  | .feedback .grip => { l with grip := startLevel l.grip b }
  | .feedback .carryEnd => { l with carryEnd := startLevel l.carryEnd b }
  | .feedback .release => { l with release := startLevel l.release b }
  | .feedback .park => { l with park := startLevel l.park b }
  | .feedback .platenUp => { l with platenUp := startLevel l.platenUp b }
  | .feedback .platenDown => { l with platenDown := startLevel l.platenDown b }
  | .pageMotion .left => { l with motionLeft := startLevel l.motionLeft b }
  | .pageMotion .right => { l with motionRight := startLevel l.motionRight b }
  | .lightCurtain => { l with curtain := startLevel l.curtain b }
  | .cameraReady .left => { l with readyLeft := startLevel l.readyLeft b }
  | .cameraReady .right => { l with readyRight := startLevel l.readyRight b }
  | .lampFault n => { l with lamps := l.lamps.set n (startLevel (l.lamps.get n) b) }

/-- A starting level delivered (R36, R72). -/
def execStartingLevel (input : SwitchInput) (asserted : Bool) (s : State) :
    Host.Outcome State Fault Refusal :=
  conclude s (s.modLmn (takeStarting input asserted))

/-- What CSQ does with a pedal press (R36): the hand confirmation, an ADVANCE in ARMED at level 1 to 4, which at
the last side is ignored (R27), or nothing. -/
def pedalPressed (s : State) : State :=
  if s.csq.runState = .running ∧ s.csq.phase = .awaitHand then handConfirm s
  else if s.csq.runState = .armed then
    match s.volume.bind advanced with
    | some p => advanceTo p s
    | none => s
  else s

/-- A confirmed pedal press (R36). -/
def execPedalPress (s : State) : Host.Outcome State Fault Refusal :=
  conclude s (pedalPressed (s.modLmn fun l => { l with pedal := some true }))

/-- A confirmed pedal release: no action at any owner (R36). -/
def execPedalRelease (s : State) : Host.Outcome State Fault Refusal :=
  conclude s (s.modLmn fun l => { l with pedal := some false })

/-- A feedback input confirmed asserted: the phase that waits on it ends (R48); with none waiting the change is
ignored. -/
def confirmed (f : Feedback) (p : Phase) (next : State → State) (s : State) : State :=
  let s' := s.modLmn (setFeedback f true)
  if s.csq.phase = p then next s' else s'

def execPlatenUpConfirmed (gauge : Gauge) (s : State) : Host.Outcome State Fault Refusal :=
  conclude s (confirmed .platenUp .platenUp (platenUpDone gauge) s)

def execLiftConfirmed (gauge : Gauge) (s : State) : Host.Outcome State Fault Refusal :=
  conclude s (confirmed .lift .lift (enterGrip gauge) s)

def execGripConfirmed (gauge : Gauge) (s : State) : Host.Outcome State Fault Refusal :=
  conclude s (confirmed .grip .grip (enterCarry gauge) s)

/-- Carry-end confirmed (R49, R51): it ends CARRY, with a gauge reading, or REVERSE_CARRY. -/
def execCarryEndConfirmed (gauge : Gauge) (s : State) : Host.Outcome State Fault Refusal :=
  conclude s <|
    if s.csq.phase = .reverseCarry then confirmed .carryEnd .reverseCarry enterRelease s
    else confirmed .carryEnd .carry (carryDone gauge) s

def execReleaseConfirmed (s : State) : Host.Outcome State Fault Refusal :=
  conclude s (confirmed .release .release releaseDone s)

/-- Park confirmed: it ends RETURN, or homing's first step (R40, R48, R51). -/
def execParkConfirmed (s : State) : Host.Outcome State Fault Refusal :=
  conclude s (confirmed .park .returning returnDone s)

/-- Platen-down confirmed: it ends PLATEN_DOWN, or completes homing (R40, R48). -/
def execPlatenDownConfirmed (s : State) : Host.Outcome State Fault Refusal :=
  conclude s (confirmed .platenDown .platenDown platenDownDone s)

/-- A feedback input confirmed no longer asserted: a level that a later phase entry reads (R48, R49). -/
def execFeedbackInputDeasserted (input : Feedback) (s : State) : Host.Outcome State Fault Refusal :=
  conclude s (s.modLmn (setFeedback input false))

/-- The settle timer restarts for a full interval, and the restart is counted and reported (R57). -/
def restartSettle (s : State) : State :=
  event .settleRestarts <| s.modCsq fun c =>
    { c with settleTimer := c.settleTimer.map fun t => startTimer t.figure,
             settleRestarts := satSucc 65535 c.settleRestarts }

/-- A page-motion change in SETTLE restarts it, while a flash is lit marks the shot MOTION (log 21), and is
otherwise ignored (R57, R58, R114). -/
def pageMoved (s : State) : State :=
  if s.csq.phase = .settle then restartSettle s
  else
    match s.light with
    | .flash _ => modPass (fun p => { p with shot := { p.shot with motion := true } }) s
    | _ => s

def execPageMotionChange (half : Half) (asserted : Bool) (s : State) : Host.Outcome State Fault Refusal :=
  conclude s <| pageMoved <| s.modLmn fun l =>
    match half with
    | .left => { l with motionLeft := some asserted }
    | .right => { l with motionRight := some asserted }

/-- A camera's RDY level changes (R112). -/
def setReady (h : Half) (b : Bool) (l : Lmn) : Lmn :=
  match h with
  | .left => { l with readyLeft := some b }
  | .right => { l with readyRight := some b }

def execCameraReadyChange (camera : Half) (ready : Bool) (s : State) : Host.Outcome State Fault Refusal :=
  let s' := s.modLmn (setReady camera ready)
  conclude s (if ready then readyChanged s' else s')

/-- An exposure-end pulse (R116). -/
def execExposureEndPulse (camera : Half) (s : State) : Host.Outcome State Fault Refusal :=
  conclude s (exposureEnd camera s)

/-- A confirmed intrusion (R72, R73, R75): a trip during motion or a run, and otherwise, with the latch set, a
re-intrusion that clears read-seen. -/
def intruded (s : State) : State :=
  let s' := s.modLmn fun l => { l with curtain := some true }
  if tripsNow s then trip (motionNow s) s'
  else if s.grd.latch then s'.modGrd fun g => { g with readSeen := false }
  else s'

def execLightCurtainIntruded (s : State) : Host.Outcome State Fault Refusal := conclude s (intruded s)

/-- A confirmed clearing of the curtain (R72). -/
def execLightCurtainCleared (s : State) : Host.Outcome State Fault Refusal :=
  conclude s (s.modLmn fun l => { l with curtain := some false })

/-- The confirmed level of a lamp fault input set. -/
def setLamp (n : Fin 8) (b : Bool) (s : State) : State :=
  s.modLmn fun l => { l with lamps := l.lamps.set n (some b) }

/-- A lamp fault confirmed (R84): a boundary of preview periods when the channel is lit in preview (R89), else
the level and the condition alone. The boundary removes the channel from the lit set (R90). -/
def lampFailed (n : Fin 8) (s : State) : State :=
  let change := fun t => setCond .lampFault (setLamp n true t)
  match s.light with
  | .preview p => if p.lit.get n then boundary (·.set n false) change s else change s
  | _ => change s

def execLampFaultAsserted (channel : Fin 8) (s : State) : Host.Outcome State Fault Refusal :=
  conclude s (lampFailed channel s)

/-- A lamp fault confirmed gone (R84): it relights nothing and clears no condition. -/
def execLampFaultCleared (channel : Fin 8) (s : State) : Host.Outcome State Fault Refusal :=
  conclude s (setLamp channel false s)

end Sys2Proof.Machine
end

