-- ==== Sys2Proof/Machine/TimedEvents.lean ====
section
/-! DEFINITION. The timed events and the steps the part begins by itself. An expiry given as a command lets the
time its timer has left pass first, also over timers that are nearer; with its timer stopped it has no effect (log 2,
log 3). -/

namespace Sys2Proof.Machine

/-- The effect of an expiry: nothing with the timer stopped, else the time left passes and `f` happens. -/
def expiring (t : Option Timer) (f : State → State) (s : State) : State :=
  match t with
  | some t => f (elapse t.left s)
  | none => s

/-- The phase timer expires (R40, R48, R50, R52). -/
def execPhaseTimeout (gauge : Gauge) (s : State) : Host.Outcome State Fault Refusal :=
  conclude s (expiring s.csq.phaseTimer (phaseTimedOut gauge) s)

/-- The settle timer expires (R57). Given as a command while the settle limit is nearer, it lets time pass over the
limit and completes SETTLE normally, with no SETTLE_LIMIT (log 2). -/
def execSettleExpiry (s : State) : Host.Outcome State Fault Refusal :=
  conclude s (expiring s.csq.settleTimer (settled false) s)

/-- The time in SETTLE reaches its limit (R57). Given as a command while the settle timer is nearer, it passes over that
timer and ends SETTLE at the limit (log 2). -/
def execSettleLimitReached (s : State) : Host.Outcome State Fault Refusal :=
  conclude s (expiring s.csq.settleLimit (settled true) s)

/-- A shot of the pass is due: the run stands in RUNNING, the shot has not begun and the holding slot is empty
(R111). -/
def shotDue (s : State) : Bool :=
  s.csq.runState == .running && s.rq.holding.isNone && s.spu.pass.any fun p => p.step == .toBegin

/-- A shot begins, with its ready check (R111, R112); with none due, nothing (log 3). -/
def execShotBegin (s : State) : Host.Outcome State Fault Refusal :=
  conclude s (if shotDue s then readyCheck s else s)

/-- What the run waits for and may begin now: the holding slot is empty (R127). -/
def dueNow (s : State) : Option Awaiting :=
  if s.csq.runState == .running && s.rq.holding.isNone then s.csq.awaiting else none

/-- The turn that waits begins (R44, R45); with none due, nothing (log 3). -/
def execTurnBegin (gauge : Gauge) (s : State) : Host.Outcome State Fault Refusal :=
  conclude s <|
    match dueNow s with
    | some (.turn d) => beginTurn d gauge s
    | _ => s

/-- The END record of a volume (R125). -/
def endRecordOf (v : Volume) : Sys2Proof.Machine.EndRecord :=
  { shelfMark := v.shelfMark, job := v.job, accumulator := v.accumulator, fired := v.fired,
    withheld := v.withheld, turnsCompleted := v.turnsCompleted }

/-- The END record is handed over, VOLUME_END is set, and the run ends (R44, R65). -/
def finishVolume (v : Volume) (s : State) : State :=
  endRun (setCond .volumeEnd (handOver 0 (.finish (endRecordOf v)) s))

/-- The END record that waits is produced (R44); with none due, nothing (log 3). -/
def execEndRecord (s : State) : Host.Outcome State Fault Refusal :=
  conclude s <|
    match dueNow s, s.volume with
    | some .endRecord, some v => finishVolume v s
    | _, _ => s

/-- The timer of a ready wait. -/
def readyTimer (s : State) : Option Timer :=
  s.spu.pass.bind fun p => match p.step with | .readyWait t => some t | _ => none

/-- A ready wait expires: CAMERA_NOT_READY, and the run holds at READY_CHECK (R112). -/
def readyExpired (s : State) : State :=
  enterHeld (s.csq.reasons.union { Reasons.empty with camera := true }) .readyCheck
    (setCond .cameraNotReady (modPass (fun p => { p with step := .between }) s))

def execReadyWaitExpiry (s : State) : Host.Outcome State Fault Refusal :=
  conclude s (expiring (readyTimer s) readyExpired s)

/-- The trigger timer of the shot in hand. -/
def triggerTimer (s : State) : Option Timer :=
  s.spu.pass.bind fun p => match p.step with | .flash t => t | _ => none

/-- The flash timer runs out (R82, R83, R114); with no flash lit, nothing. -/
def flashRunOut (s : State) : State :=
  match s.light with
  | .flash f => flashExpired f (elapse f.timer.left s)
  | _ => s

/-- Whether the trigger falls at the end of the flash: the effective delay is the effective on-time (R114). -/
def triggerAtEnd (s : State) : Bool :=
  match triggerTimer s, s.light with
  | some t, .flash f => t.figure == f.timer.figure
  | _, _ => false

/-- The trigger timer expires (R114). A trigger that falls at the end of the flash is pulsed within the expiry of
the flash timer, so its expiry is that one. -/
def execTriggerTimerExpiry (s : State) : Host.Outcome State Fault Refusal :=
  conclude s (if triggerAtEnd s then flashRunOut s else expiring (triggerTimer s) trigger s)

/-- The TRIG pulse that ends first (R114). -/
def trigTimer (s : State) : Option Timer :=
  match s.spu.left.trig, s.spu.right.trig with
  | some l, some r => if l.left ≤ r.left then some l else some r
  | some l, none => some l
  | none, r => r

/-- A port whose TRIG pulse has run out. -/
def endPulse (p : Port) : Port := if p.trig.any (·.left == 0) then { p with trig := none } else p

/-- The TRIG pulses whose 100 µs are over end (R114). -/
def execTrigPulseEnd (s : State) : Host.Outcome State Fault Refusal :=
  conclude s <| expiring (trigTimer s)
    (fun t => t.modSpu fun u => { u with left := endPulse u.left, right := endPulse u.right }) s

/-- The flash timer expires (R82, R83, R114). -/
def execFlashTimerExpiry (s : State) : Host.Outcome State Fault Refusal := conclude s (flashRunOut s)

/-- The timer of a frame grace. -/
def graceTimer (s : State) : Option Timer :=
  s.spu.pass.bind fun p => match p.step with | .grace t => some t | _ => none

/-- The frame grace expires (R115). -/
def execFrameGraceExpiry (s : State) : Host.Outcome State Fault Refusal :=
  conclude s (expiring (graceTimer s) graceExpired s)

/-- The preview timer expires: preview ends with the condition of its kind (R87). -/
def previewExpired (s : State) : State :=
  match s.light with
  | .preview p =>
    setCond (if p.cutExpiry then .doseCeiling else .previewLimit) (leavePreview (closePeriod p s))
  | _ => s

/-- The preview timer. -/
def previewTimer (s : State) : Option Timer :=
  match s.light with
  | .preview p => some p.timer
  | _ => none

def execPreviewTimerExpiry (s : State) : Host.Outcome State Fault Refusal :=
  conclude s (expiring (previewTimer s) previewExpired s)

/-- The stale timer expires (R133). -/
def execStaleTimerExpiry (s : State) : Host.Outcome State Fault Refusal :=
  conclude s (expiring s.rq.staleTimer (fun t => setCond .queueStale (stopStale t)) s)

/-- The time base passes its limit and is 0 (R135): the time to that moment passes. -/
def execTimeBaseWrap (s : State) : Host.Outcome State Fault Refusal :=
  conclude s (elapse (2 ^ 48 - s.cth.timeBase) s)

/-- A counter by name. -/
def counterNamed (n : CounterName) (c : Cth) : Counter :=
  match n with
  | .a => c.a
  | .b => c.b

/-- A counter that counts time reaches its next millisecond (R139): the time to that moment passes. -/
def execDurationMillisecond (counter : CounterName) (s : State) : Host.Outcome State Fault Refusal :=
  conclude s <|
    let c := counterNamed counter s.cth
    if countsTime s c then elapse (1000 - c.residue) s else s

end Sys2Proof.Machine
end

