-- ==== Sys2Proof/Machine/Dispatch.lean ====
section
/-! DEFINITION. The dispatch: one arm per command, each a direct call of its meaning. -/

namespace Sys2Proof.Machine

/-- The effect of a command on everything but the queue of waiting commands. -/
def exec (i : Instr) (s : State) : Host.Outcome State Fault Refusal :=
  match i with
  | .openVolume shelfMark job leafCount handling sideCeiling volumeCeiling => Sys2Proof.Machine.execOpenVolume shelfMark job leafCount handling sideCeiling volumeCeiling s
  | .closeVolume => Sys2Proof.Machine.execCloseVolume s
  | .queryVolume => Sys2Proof.Machine.execQueryVolume s
  | .defineSpan first count style start => Sys2Proof.Machine.execDefineSpan first count style start s
  | .deleteSpan first => Sys2Proof.Machine.execDeleteSpan first s
  | .querySpan index => Sys2Proof.Machine.execQuerySpan index s
  | .markLeaf leaf override recto verso => Sys2Proof.Machine.execMarkLeaf leaf override recto verso s
  | .queryLeaf leaf => Sys2Proof.Machine.execQueryLeaf leaf s
  | .setPosition opening => Sys2Proof.Machine.execSetPosition opening s
  | .setMark mark enabled cls first last => Sys2Proof.Machine.execSetMark mark enabled cls first last s
  | .clearMark mark => Sys2Proof.Machine.execClearMark mark s
  | .queryMarks => Sys2Proof.Machine.execQueryMarks s
  | .enterInsert half sides => Sys2Proof.Machine.execEnterInsert half sides s
  | .advance => Sys2Proof.Machine.execAdvance s
  | .leaveInsert => Sys2Proof.Machine.execLeaveInsert s
  | .queryInsert frame side => Sys2Proof.Machine.execQueryInsert frame side s
  | .setDebounce period => Sys2Proof.Machine.execSetDebounce period s
  | .home => Sys2Proof.Machine.execHome s
  | .arm => Sys2Proof.Machine.execArm s
  | .disarm => Sys2Proof.Machine.execDisarm s
  | .run flags => Sys2Proof.Machine.execRun flags s
  | .turn direction => Sys2Proof.Machine.execTurn direction s
  | .capture => Sys2Proof.Machine.execCapture s
  | .platenUp => Sys2Proof.Machine.execPlatenUp s
  | .platenDown => Sys2Proof.Machine.execPlatenDown s
  | .recover opening => Sys2Proof.Machine.execRecover opening s
  | .setTurnTiming timing => Sys2Proof.Machine.execSetTurnTiming timing s
  | .queryTurnTiming => Sys2Proof.Machine.execQueryTurnTiming s
  | .setStep mode => Sys2Proof.Machine.execSetStep mode s
  | .resume flags => Sys2Proof.Machine.execResume flags s
  | .halt => Sys2Proof.Machine.execHalt s
  | .abort => Sys2Proof.Machine.execAbort s
  | .setGuardEnable enable => Sys2Proof.Machine.execSetGuardEnable enable s
  | .readGuard => Sys2Proof.Machine.execReadGuard s
  | .clearGuard => Sys2Proof.Machine.execClearGuard s
  | .setCalibration channel illuminance weight coverage flashLimit enabled => Sys2Proof.Machine.execSetCalibration channel illuminance weight coverage flashLimit enabled s
  | .queryCalibration channel => Sys2Proof.Machine.execQueryCalibration channel s
  | .previewOn drives => Sys2Proof.Machine.execPreviewOn drives s
  | .previewOff => Sys2Proof.Machine.execPreviewOff s
  | .setPreviewLimit seconds => Sys2Proof.Machine.execSetPreviewLimit seconds s
  | .readLights => Sys2Proof.Machine.execReadLights s
  | .setCeilings sideCeiling volumeCeiling => Sys2Proof.Machine.execSetCeilings sideCeiling volumeCeiling s
  | .readDose => Sys2Proof.Machine.execReadDose s
  | .loadPlan flags planId shots => Sys2Proof.Machine.execLoadPlan flags planId shots s
  | .queryPlan slot => Sys2Proof.Machine.execQueryPlan slot s
  | .readCameras => Sys2Proof.Machine.execReadCameras s
  | .setCameraTiming readyWait frameGrace => Sys2Proof.Machine.execSetCameraTiming readyWait frameGrace s
  | .queryCameraTiming => Sys2Proof.Machine.execQueryCameraTiming s
  | .takeResult => Sys2Proof.Machine.execTakeResult s
  | .peekResult => Sys2Proof.Machine.execPeekResult s
  | .readQueue => Sys2Proof.Machine.execReadQueue s
  | .flushResults => Sys2Proof.Machine.execFlushResults s
  | .setQueueCapacity capacity => Sys2Proof.Machine.execSetQueueCapacity capacity s
  | .setSummaryMode mode => Sys2Proof.Machine.execSetSummaryMode mode s
  | .clearSummary => Sys2Proof.Machine.execClearSummary s
  | .setStaleInterval seconds => Sys2Proof.Machine.execSetStaleInterval seconds s
  | .readTime => Sys2Proof.Machine.execReadTime s
  | .setCounter counter value event edge threshold invert => Sys2Proof.Machine.execSetCounter counter value event edge threshold invert s
  | .readCounters => Sys2Proof.Machine.execReadCounters s
  | .setHistoryEnable enable => Sys2Proof.Machine.execSetHistoryEnable enable s
  | .readHistory => Sys2Proof.Machine.execReadHistory s
  | .readLink => Sys2Proof.Machine.execReadLink s
  | .clearLinkCounts => Sys2Proof.Machine.execClearLinkCounts s
  | .readConditions => Sys2Proof.Machine.execReadConditions s
  | .clearConditions mask => Sys2Proof.Machine.execClearConditions mask s
  | .setMask mask => Sys2Proof.Machine.execSetMask mask s
  | .setAux mask => Sys2Proof.Machine.execSetAux mask s
  | .clearAux mask => Sys2Proof.Machine.execClearAux mask s
  | .setAuxSource output source => Sys2Proof.Machine.execSetAuxSource output source s
  | .identify => Sys2Proof.Machine.execIdentify s
  | .reset => Sys2Proof.Machine.execReset s
  | .saveSettings => Sys2Proof.Machine.execSaveSettings s
  | .readStore => Sys2Proof.Machine.execReadStore s
  | .unknownKind kind => Sys2Proof.Machine.execUnknownKind kind s
  | .frameReceived tag kind body check => Sys2Proof.Machine.execFrameReceived tag kind body check s
  | .frameTimeout => Sys2Proof.Machine.execFrameTimeout s
  | .replySent => Sys2Proof.Machine.execReplySent s
  | .noticeSent => Sys2Proof.Machine.execNoticeSent s
  | .powerOn straps => Sys2Proof.Machine.execPowerOn straps s
  | .resetPin straps => Sys2Proof.Machine.execResetPin straps s
  | .supplyFall straps => Sys2Proof.Machine.execSupplyFall straps s
  | .saveComplete => Sys2Proof.Machine.execSaveComplete s
  | .startingLevel input asserted => Sys2Proof.Machine.execStartingLevel input asserted s
  | .pedalPress => Sys2Proof.Machine.execPedalPress s
  | .pedalRelease => Sys2Proof.Machine.execPedalRelease s
  | .platenUpConfirmed gauge => Sys2Proof.Machine.execPlatenUpConfirmed gauge s
  | .liftConfirmed gauge => Sys2Proof.Machine.execLiftConfirmed gauge s
  | .gripConfirmed gauge => Sys2Proof.Machine.execGripConfirmed gauge s
  | .carryEndConfirmed gauge => Sys2Proof.Machine.execCarryEndConfirmed gauge s
  | .releaseConfirmed => Sys2Proof.Machine.execReleaseConfirmed s
  | .parkConfirmed => Sys2Proof.Machine.execParkConfirmed s
  | .platenDownConfirmed => Sys2Proof.Machine.execPlatenDownConfirmed s
  | .phaseTimeout gauge => Sys2Proof.Machine.execPhaseTimeout gauge s
  | .pageMotionChange half asserted => Sys2Proof.Machine.execPageMotionChange half asserted s
  | .settleExpiry => Sys2Proof.Machine.execSettleExpiry s
  | .settleLimitReached => Sys2Proof.Machine.execSettleLimitReached s
  | .shotBegin => Sys2Proof.Machine.execShotBegin s
  | .cameraReadyChange camera ready => Sys2Proof.Machine.execCameraReadyChange camera ready s
  | .readyWaitExpiry => Sys2Proof.Machine.execReadyWaitExpiry s
  | .triggerTimerExpiry => Sys2Proof.Machine.execTriggerTimerExpiry s
  | .trigPulseEnd => Sys2Proof.Machine.execTrigPulseEnd s
  | .flashTimerExpiry => Sys2Proof.Machine.execFlashTimerExpiry s
  | .turnBegin gauge => Sys2Proof.Machine.execTurnBegin gauge s
  | .endRecord => Sys2Proof.Machine.execEndRecord s
  | .exposureEndPulse camera => Sys2Proof.Machine.execExposureEndPulse camera s
  | .frameGraceExpiry => Sys2Proof.Machine.execFrameGraceExpiry s
  | .lightCurtainIntruded => Sys2Proof.Machine.execLightCurtainIntruded s
  | .lightCurtainCleared => Sys2Proof.Machine.execLightCurtainCleared s
  | .lampFaultAsserted channel => Sys2Proof.Machine.execLampFaultAsserted channel s
  | .lampFaultCleared channel => Sys2Proof.Machine.execLampFaultCleared channel s
  | .previewTimerExpiry => Sys2Proof.Machine.execPreviewTimerExpiry s
  | .staleTimerExpiry => Sys2Proof.Machine.execStaleTimerExpiry s
  | .timeBaseWrap => Sys2Proof.Machine.execTimeBaseWrap s
  | .durationMillisecond counter => Sys2Proof.Machine.execDurationMillisecond counter s
  | .byteReceived byte => Sys2Proof.Machine.execByteReceived byte s
  | .feedbackInputDeasserted input => Sys2Proof.Machine.execFeedbackInputDeasserted input s

end Sys2Proof.Machine
end

