-- ==== Sys2Proof/Machine/Idle.lean ====
section
/-! DEFINITION. What the part does of itself while no command waits (log 1, log 8): its own next due event, or,
with none due, a sample of an input (R35, log 10), or the passing of one microsecond. -/

namespace Sys2Proof.Machine

/-- A timer that has run out. -/
def ranOut (t : Option Timer) : Bool := t.any (·.left == 0)

/-- The event that the frame being sent ends with, once its time on the line is over (R145, R146). -/
def sentEvent (s : State) : Option Instr :=
  match s.lif.tx with
  | some t => if t.timer.left = 0 then some (if t.reply then .replySent else .noticeSent) else none
  | none => none

/-- The request in the older slot, once its handling is due (R145). -/
def slotEvent (s : State) : Option Instr :=
  match s.lif.slots with
  | r :: _ =>
    if !s.lif.handled && s.lif.outbox.isEmpty then
      match decodeRequest r.kind r.body with
      | .request c => some c
      | .unknown kind => some (.unknownKind kind)
      | .badLength => none
    else none
  | [] => none

/-- The step of the run that may begin now (R111, R127). -/
def runEvent (g : Gauge) (s : State) : Option Instr :=
  match dueNow s with
  | some (.turn _) => some (.turnBegin g)
  | some .endRecord => some .endRecord
  | none => if shotDue s then some .shotBegin else none

/-- An event that is due where `b` holds. -/
def dueIf (b : Bool) (c : Instr) : Option Instr := if b then some c else none

/-- The timers of the part in the fixed order in which events of one moment are taken (log 8). -/
def timerEvent (g : Gauge) (s : State) : Option Instr :=
  dueIf (ranOut s.csq.phaseTimer) (.phaseTimeout g) <|>
  dueIf (ranOut s.csq.settleTimer) .settleExpiry <|>
  dueIf (ranOut s.csq.settleLimit) .settleLimitReached <|>
  dueIf (ranOut (trigTimer s)) .trigPulseEnd <|>
  dueIf (ranOut (triggerTimer s)) .triggerTimerExpiry <|>
  dueIf (ranOut (match s.light with | .flash f => some f.timer | _ => none)) .flashTimerExpiry <|>
  dueIf (ranOut (readyTimer s)) .readyWaitExpiry <|>
  dueIf (ranOut (graceTimer s)) .frameGraceExpiry <|>
  dueIf (ranOut (previewTimer s)) .previewTimerExpiry <|>
  dueIf (ranOut s.rq.staleTimer) .staleTimerExpiry <|>
  dueIf (ranOut s.lif.gap) .frameTimeout <|>
  dueIf (ranOut (s.sto.save.map (·.timer))) .saveComplete

/-- The part's own event that is due, if any. -/
def ownEvent (g : Gauge) (s : State) : Option Instr :=
  timerEvent g s <|> sentEvent s <|> runEvent g s <|> slotEvent s

/-- The gauge's level at an event the part begins by itself: a free value (R49, log 11). -/
def freeGauge (s : State) : Gauge := if Config.gaugeIsDouble s.freeReads then .double else .single

/-- A sample of one input at level `b` (R35): what it notes of the first sample, and the confirmed change or
starting level that a second one delivers. -/
def sampleInput (g : Gauge) (i : SwitchInput) (b : Bool) (s : State) : Host.Outcome State Fault Refusal :=
  let noted := s.modSampling (noteSample i b s.lmn)
  if confirmsSample i b s.lmn s.sampling then exec (confirmation g i b s.lmn) noted else conclude s noted

/-- With no event due, the inputs are sampled where their sample is due, one a step with the level of its pin a
free value, and else one microsecond passes (R35, log 1, log 10). -/
def sampleOrWait (s : State) : Host.Outcome State Fault Refusal :=
  match s.sampling.due with
  | i :: rest =>
    sampleInput (freeGauge s) i (Config.pinLevel s.freeReads)
      ((s.modSampling fun x => { x with due := rest }).setFreeReads (s.freeReads + 1))
  | [] => conclude s (if s.sampling.timer.left = 0 then beginSamples s else elapse 1 s)

/-- One step of the part with no command waiting. The counter of the free values moves on at the events that
may read the gauge and at a sample. -/
def idle (s : State) : Host.Outcome State Fault Refusal :=
  match ownEvent .single s with
  | none => sampleOrWait s
  | some (.phaseTimeout _) => exec (.phaseTimeout (freeGauge s)) (s.setFreeReads (s.freeReads + 1))
  | some (.turnBegin _) => exec (.turnBegin (freeGauge s)) (s.setFreeReads (s.freeReads + 1))
  | some c => exec c s

end Sys2Proof.Machine
end

