-- ==== Sys2Proof/Safety.lean ====
section
/-! DEFINITION. What a request's reply leaves, in the terms that statements use, and the laws that hold of the
machine between steps: ranges of the settings, shape of the conditions, the link, the detour and the counts,
who may be at work in a run, the order of the queue, and the ceilings. -/

namespace Sys2Proof.Machine

/-! ### The reply of a request -/

/-- The state after a request `c` handled in `before` and answered with `r`, where its own effect leaves
`after`: the reply of KIND the request's plus 0x80 joins the replies to be sent, and the event closes
(R145, R153; log 5). What this adds to `after` is stated by `Obligations.ReplyChangesTheLinkAlone`. -/
def answered (c : Instr) (r : Result) (content : List Byte) (before after : State) : State :=
  finish before (after.modLif
    (addReply (.request c) (requestKind c + 0x80#8) r content (c == .reset)))

/-- A taken request: OK with its content. -/
def taken (c : Instr) (content : List Byte) (before after : State) : State :=
  answered c .ok content before after

/-- A refused request: the result alone, and nothing else changes (R153). -/
def refused (c : Instr) (r : Result) (s : State) : State := answered c r [] s s

/-! ### Settings (R35, R61, R79, R91, R121, R131, R133) -/

/-- A number within the limits of its range. -/
def within (lo hi n : Nat) : Prop := lo ≤ n ∧ n ≤ hi

/-- A calibration record in range (R78, R79). -/
def CalibrationInRange (c : Calibration) : Prop :=
  within 1 100000 c.illuminance ∧ within 0 8000 c.weight ∧ within 1 2000 c.flashLimit

/-- Turn timing in range (R61). -/
def TimingInRange (t : TurnTiming) : Prop :=
  within 10 5000 t.platenUp ∧ within 10 5000 t.lift ∧ within 10 5000 t.grip ∧ within 10 5000 t.carry ∧
  within 10 5000 t.release ∧ within 10 5000 t.returning ∧ within 10 5000 t.platenDown ∧
  within 50 5000 t.interval ∧ within 2 20 t.multiplier

/-- Stored settings in range. -/
def SettingsInRange (x : Settings) : Prop :=
  (∀ n : Fin 8, CalibrationInRange (x.calibration.get n)) ∧ TimingInRange x.timing ∧
  within 10 10000 x.readyWait ∧ within 0 500 x.frameGrace ∧ within 1 50 x.debounce ∧
  (x.capacity = 32 ∨ x.capacity = 64) ∧ within 0 60 x.staleInterval ∧ within 1 600 x.previewLimit

/-- The working copies, a capture being saved, and the store are in range. -/
def SettingsLaw (s : State) : Prop :=
  SettingsInRange s.settings ∧ (∀ v, s.sto.save = some v → SettingsInRange v.captured) ∧
  ∀ x, s.sto.stored = some x → SettingsInRange x

/-! ### Conditions (R147, R148) -/

/-- Only the 19 latched conditions are latched, and only assigned positions are enabled. -/
def ConditionLaw (s : State) : Prop :=
  s.lif.latched &&& ~~~latchedPositions = 0#32 ∧ s.lif.mask &&& ~~~assignedPositions = 0#32

/-! ### The link (R143 to R146) -/

/-- The receiver's assembly is within a frame's bounds, and its gap timer runs exactly while it assembles. -/
def ReceiverLaw (l : Lif) : Prop :=
  (∀ len bytes, l.receiver = .collecting len bytes → within 2 250 len ∧ bytes.length < len + 2) ∧
  (l.gap.isSome ↔ l.receiver ≠ .hunting)

/-- At most two requests are held, each of a body that fits a frame; the older one, once handled, has exactly
one reply waiting, and no reply frees a slot that is not handled; a reply that is being sent is the first that
waits. -/
def SlotLaw (l : Lif) : Prop :=
  l.slots.length ≤ 2 ∧ (∀ r ∈ l.slots, r.body.length ≤ 248) ∧
  (l.handled = true → l.slots ≠ []) ∧
  (l.outbox.filter (·.fromSlot)).length = (if l.handled then 1 else 0) ∧
  (∀ t, l.tx = some t → t.reply = true → l.outbox ≠ [])

def LinkLaw (s : State) : Prop := ReceiverLaw s.lif ∧ SlotLaw s.lif

/-! ### The detour (R20 to R26) -/

/-- The frames are numbered in order, each with 1 to 32 sides at depth 1 to 4 and with pool records that follow
those of the frames before it (R20, R21). -/
def FramesInOrder (v : Volume) : Prop :=
  (∀ i f, v.frames[i]? = some f →
    f.ordinal = i + 1 ∧ within 1 4 f.depth ∧ within 1 32 f.sides ∧
    f.firstPool = ((v.frames.take i).map (·.sides)).sum) ∧
  v.pool.length = (v.frames.map (·.sides)).sum

/-- At most 4 levels, 64 frames and 512 pool records; an entry is deferred only at level 4, and its room waits
for it (R21, R22, R24, R26). -/
def DetourLaw (s : State) : Prop :=
  ∀ v, s.volume = some v →
    v.stack.length ≤ 4 ∧ v.frames.length ≤ 64 ∧ v.pool.length ≤ 512 ∧ FramesInOrder v ∧
    ∀ n, v.deferred = some n →
      v.stack.length = 4 ∧ v.frames.length < 64 ∧ within 1 32 n ∧ v.pool.length + n ≤ 512

/-! ### Spans and leaves (R3, R7, R12) -/

/-- The span list is in ascending order of first leaf, covers text leaves alone, and no leaf twice (R7). -/
def SpansInOrder (v : Volume) : Prop :=
  v.spans.length ≤ 32 ∧ (∀ p ∈ v.spans, 1 ≤ p.first ∧ 1 ≤ p.count ∧ p.first + p.count ≤ v.leafCount + 1) ∧
  ∀ i p q, v.spans[i]? = some p → v.spans[i + 1]? = some q → p.first + p.count ≤ q.first

/-- There are leaves 0 to N + 1, and only the boards lack a side: leaf 0 its recto and leaf N + 1 its verso
(R3, R12). -/
def LeavesInOrder (v : Volume) : Prop :=
  within 1 2000 v.leafCount ∧ v.leaves.length = v.leafCount + 2 ∧
  ∀ n l, v.leaves[n]? = some l → (l.recto.isSome ↔ n ≠ 0) ∧ (l.verso.isSome ↔ n ≠ v.leafCount + 1)

def ShelfLaw (s : State) : Prop := ∀ v, s.volume = some v → SpansInOrder v ∧ LeavesInOrder v

/-! ### Positions (R16, R22) -/

/-- A position at a level: an opening from 0 to N at level 0, and at level 1 to 4 a side of an insert frame of that
depth (R16, R22). -/
def PlaceInRange (v : Volume) (level : Nat) : Position → Prop
  | .opening k => level = 0 ∧ k ≤ v.leafCount
  | .insert f i => 1 ≤ level ∧ 1 ≤ f ∧ ∃ fr, v.frames[f - 1]? = some fr ∧ i < fr.sides ∧ fr.depth = level

/-- The current position and the saved ones, the top of the stack first, each stand in range at their level: the
bottom of the stack is an opening (R22). -/
def PlacesInRange (v : Volume) : Prop :=
  PlaceInRange v v.stack.length v.position ∧
  ∀ j p, v.stack[j]? = some p → PlaceInRange v (v.stack.length - 1 - j) p

/-- The phases of a turn in which its position has still to move (R48, R53, R56). -/
def beforeMove (p : Phase) : Prop :=
  p ∈ [.platenUp, .lift, .grip, .carry, .reverseCarry, .release, .awaitHand]

/-- A continuous run and a turn stand at level 0, and a turn whose position has still to move stands at an opening
from which it leads to another (R16, R43, R45, R67). -/
def TurnPlaced (v : Volume) (c : Csq) : Prop :=
  (c.scope = some .continuous → c.runState = .running ∨
      (c.runState = .held ∧ (c.resumePoint = some .readyCheck ∨ c.resumePoint = some .afterShot)) →
    v.stack = []) ∧
  (∀ d, c.awaiting = some (.turn d) → v.stack = []) ∧
  ∀ t, c.turn = some t → v.stack = [] ∧
    (beforeMove c.phase → v.position = .opening t.fromOpening ∧
      (if t.direction = .forward then t.fromOpening < v.leafCount else 1 ≤ t.fromOpening))

def PlaceLaw (s : State) : Prop := ∀ v, s.volume = some v → PlacesInRange v ∧ TurnPlaced v s.csq

/-! ### The samples of the inputs (R35) -/

/-- Each sample falls a debounce period after the last, and at most one first sample of an input waits. -/
def SampleLaw (s : State) : Prop :=
  s.sampling.timer.figure = s.settings.debounce * 1000 ∧ s.sampling.timer.left ≤ s.sampling.timer.figure ∧
  (s.sampling.waiting.map (·.1)).Nodup

/-! ### Counts and their widths -/

/-- A counter within its fields (R136, R139). -/
def CounterInWidth (c : Counter) : Prop := c.value < 2 ^ 32 ∧ c.threshold ≤ 255 ∧ c.residue < 1000

/-- The side counts of a side record within theirs (R12). -/
def SideInWidth (r : SideRecord) : Prop := r.shots ≤ 255 ∧ r.retakes ≤ 255

/-- The counts of a volume within theirs (R12, R103, R125). -/
def VolumeInWidth (v : Volume) : Prop :=
  v.fired < 2 ^ 32 ∧ v.withheld < 2 ^ 32 ∧ v.turnsCompleted < 2 ^ 32 ∧
  (∀ l ∈ v.leaves, (∀ r, l.recto = some r → SideInWidth r) ∧ ∀ r, l.verso = some r → SideInWidth r) ∧
  ∀ r ∈ v.pool, SideInWidth r

/-- Every count keeps within its width: the time base (R135), the counters (R136), the tallies (R138), the
record numbers (R123), the frame counts (R116), the link's counts (R143, R144), the retry count (R50), the
settle restarts (log 17), and the volume's counts. -/
def CountLaw (s : State) : Prop :=
  s.cth.timeBase < 2 ^ 48 ∧ CounterInWidth s.cth.a ∧ CounterInWidth s.cth.b ∧
  s.cth.tallies.retries ≤ 65535 ∧ s.cth.tallies.restarts ≤ 65535 ∧
  s.cth.tallies.fired ≤ 65535 ∧ s.cth.tallies.withheld ≤ 65535 ∧
  s.rq.nextNumber < 2 ^ 32 ∧ s.spu.left.frames < 2 ^ 32 ∧ s.spu.right.frames < 2 ^ 32 ∧
  s.lif.drops ≤ 65535 ∧ s.lif.checkErrors ≤ 65535 ∧ s.csq.retries ≤ 3 ∧ s.csq.settleRestarts ≤ 65535 ∧
  ∀ v, s.volume = some v → VolumeInWidth v

/-! ### Who is at work in a run (sections 3.2, 4.1 and 7.2) -/

/-- A hold from which a RESUME continues the same capture pass (R62). -/
def suspending (p : Option ResumePoint) : Prop := p = some .readyCheck ∨ p = some .afterShot

/-- A pass is in progress in RUNNING alone, over an open volume; in HELD it may stand suspended between two
shots, at READY_CHECK or AFTER_SHOT (R62, R120). -/
def PassPlaced (s : State) : Prop :=
  ∀ p, s.spu.pass = some p →
    s.volume.isSome ∧
    (s.csq.runState = .running ∨
     (s.csq.runState = .held ∧ p.step = .between ∧ suspending s.csq.resumePoint))

/-- A turn and a step that waits stand in RUNNING alone, with no pass, and never both (R44, R45). -/
def TurnAlone (s : State) : Prop :=
  (s.csq.turn.isSome → s.csq.runState = .running ∧ s.spu.pass = none ∧ s.csq.awaiting = none) ∧
  (s.csq.awaiting.isSome → s.csq.runState = .running ∧ s.spu.pass = none)

/-- A phase other than NONE stands in RUNNING or HOMING alone, SETTLE in RUNNING alone, with no pass and nothing
that waits; the phase timer runs only in a phase, and the settle timers only in SETTLE (R37, R40, R48, R57). -/
def PhasePlaced (s : State) : Prop :=
  (s.csq.phase ≠ .none →
    (s.csq.runState = .running ∨ s.csq.runState = .homing) ∧ s.spu.pass = none ∧
      s.csq.awaiting = none) ∧
  (s.csq.phase = .settle → s.csq.runState = .running) ∧
  (s.csq.phase = .none → s.csq.phaseTimer = none) ∧
  (s.csq.phase ≠ .settle → s.csq.settleTimer = none ∧ s.csq.settleLimit = none)

/-- A flash is lit only for a shot of a pass in RUNNING, and preview only outside a run, a homing, a fault and
a guard stop (R80, R85). -/
def LightPlaced (s : State) : Prop :=
  (∀ f, s.light = .flash f →
    s.csq.runState = .running ∧ ∃ p t, s.spu.pass = some p ∧ p.step = .flash t) ∧
  (∀ p, s.light = .preview p →
    s.csq.runState = .unhomed ∨ s.csq.runState = .disarmed ∨ s.csq.runState = .armed ∨
      s.csq.runState = .held)

/-- The guard latch is set exactly in GUARDED (R73, R77). -/
def GuardPlaced (s : State) : Prop := s.grd.latch = true ↔ s.csq.runState = .guarded

/-- What a CAPTURE sets aside is no suspended pass (R46, R68). -/
def SetAsidePlaced (s : State) : Prop :=
  ∀ a, s.csq.setAside = some a → ¬ suspending (some a.point)

/-- One thing at a time is at work: pass, turn, wait, movement, light and guard each stand only where the
chapters 3 to 7 let them. -/
def RunLaw (s : State) : Prop :=
  PassPlaced s ∧ TurnAlone s ∧ PhasePlaced s ∧ LightPlaced s ∧ GuardPlaced s ∧ SetAsidePlaced s

/-! ### The result queue (R123, R126, R127) -/

/-- The records the queue holds, oldest first. -/
def heldRecords (q : Rq) : List Record := q.fifo ++ q.holding.toList

/-- A shot that has begun and has no record yet. -/
def begun (p : Pass) : Bool :=
  match p.step with
  | .between => false
  | .toBegin => false
  | .readyWait _ => true
  | .flash _ => true
  | .grace _ => true

/-- The holding slot is empty while a step that will produce a record is in hand: a turn, a shot that has
begun, or a hold at READY_CHECK (R111, R127). -/
def SlotKept (s : State) : Prop :=
  (s.csq.turn.isSome → s.rq.holding = none) ∧
  (∀ p, s.spu.pass = some p → begun p = true → s.rq.holding = none) ∧
  (s.csq.runState = .held → s.csq.resumePoint = some .readyCheck → s.rq.holding = none)

/-- The FIFO holds at most its capacity, the holding slot is occupied only while it is full, and the records
held carry consecutive numbers that end just before the next one, modulo 2^32 (R126). -/
def QueueLaw (s : State) : Prop :=
  s.rq.fifo.length ≤ s.settings.capacity ∧
  (s.rq.holding.isSome → s.rq.fifo.length = s.settings.capacity) ∧
  (∀ i r, (heldRecords s.rq)[i]? = some r →
    (r.number + ((heldRecords s.rq).length - i)) % 2 ^ 32 = s.rq.nextNumber % 2 ^ 32) ∧
  SlotKept s

/-! ### The ceilings (R95, R97, R98, R100, R103) -/

/-- Every side record that is present satisfies `P`. -/
def EverySide (P : SideRecord → Prop) (v : Volume) : Prop :=
  (∀ l ∈ v.leaves, (∀ r, l.recto = some r → P r) ∧ ∀ r, l.verso = some r → P r) ∧ ∀ r ∈ v.pool, P r

/-- Every side accumulator is at or below the peak, the peak at or below the side ceiling, and the volume
accumulator at or below the volume ceiling (R98, R103). -/
def WithinCeilings (v : Volume) : Prop :=
  EverySide (fun r => r.dose ≤ v.peak) v ∧ v.peak ≤ v.sideCeiling ∧ v.accumulator ≤ v.volumeCeiling

/-- Doses of the two sides of the current mapping that may still be posted under the ceilings. -/
def Fits (v : Volume) (dl dr : Nat) : Prop :=
  (dl = 0 ∨ doseAt v (leftSide v) + dl ≤ v.sideCeiling) ∧
  (dr = 0 ∨ doseAt v (rightSide v) + dr ≤ v.sideCeiling) ∧
  v.accumulator + (dl + dr) ≤ v.volumeCeiling

/-- The dose of a lit set over `t` µs fits under the ceilings (R95, R101). -/
def DoseFits (s : State) (v : Volume) (lit : Eight Bool) (drives : Eight Nat) (t : Nat) : Prop :=
  Fits v (doseOf (sideRate .left lit drives s) t) (doseOf (sideRate .right lit drives s) t)

/-- No accumulator stands above its ceiling, and the light that is on cannot take one there: the whole flash in
progress fits, and so does the whole preview period (R98). -/
def CeilingLaw (s : State) : Prop :=
  ∀ v, s.volume = some v → WithinCeilings v ∧
    (∀ f, s.light = .flash f → DoseFits s v f.lit f.drives f.timer.figure) ∧
    (∀ p, s.light = .preview p → DoseFits s v p.lit p.drives p.timer.figure)

/-! ### The sum of the doses (R97, R103) -/

/-- The dose accumulators of all leaf sides and insert sides of a volume. -/
def allDoses (v : Volume) : List Nat :=
  (v.leaves.flatMap fun l => l.recto.toList ++ l.verso.toList).map (·.dose) ++ v.pool.map (·.dose)

/-- The volume accumulator is the sum of all side accumulators (R97), and the peak is the largest of them
(R103). -/
def SumLaw (s : State) : Prop :=
  ∀ v, s.volume = some v → v.accumulator = (allDoses v).sum ∧ v.peak = (allDoses v).foldr max 0

end Sys2Proof.Machine
end

