-- ==== Sys2Proof/WellFormed.lean ====
section
/-! DEFINITION. Which commands can be given: the widths are in the operands' types, and what remains is that a
body fits a frame (R143: at most 248 bytes) and that UNKNOWN_KIND names a code outside the assigned ones. -/

namespace Sys2Proof

/-- A command that the link or the part can give. A shelf mark of at most 230 characters and at most 9
shots keep the body of OPEN VOLUME and of LOAD PLAN within 248 bytes; longer ones cannot be sent. -/
def WellFormed : Instr → Bool
  | .openVolume mark _ _ _ _ _ => decide (mark.length ≤ 230)
  | .closeVolume => true
  | .queryVolume => true
  | .defineSpan _ _ _ _ => true
  | .deleteSpan _ => true
  | .querySpan _ => true
  | .markLeaf _ _ _ _ => true
  | .queryLeaf _ => true
  | .setPosition _ => true
  | .setMark _ _ _ _ _ => true
  | .clearMark _ => true
  | .queryMarks => true
  | .enterInsert _ _ => true
  | .advance => true
  | .leaveInsert => true
  | .queryInsert _ _ => true
  | .setDebounce _ => true
  | .home => true
  | .arm => true
  | .disarm => true
  | .run _ => true
  | .turn _ => true
  | .capture => true
  | .platenUp => true
  | .platenDown => true
  | .recover _ => true
  | .setTurnTiming _ => true
  | .queryTurnTiming => true
  | .setStep _ => true
  | .resume _ => true
  | .halt => true
  | .abort => true
  | .setGuardEnable _ => true
  | .readGuard => true
  | .clearGuard => true
  | .setCalibration _ _ _ _ _ _ => true
  | .queryCalibration _ => true
  | .previewOn _ => true
  | .previewOff => true
  | .setPreviewLimit _ => true
  | .readLights => true
  | .setCeilings _ _ => true
  | .readDose => true
  | .loadPlan _ _ shots => decide (shots.length ≤ 9)
  | .queryPlan _ => true
  | .readCameras => true
  | .setCameraTiming _ _ => true
  | .queryCameraTiming => true
  | .takeResult => true
  | .peekResult => true
  | .readQueue => true
  | .flushResults => true
  | .setQueueCapacity _ => true
  | .setSummaryMode _ => true
  | .clearSummary => true
  | .setStaleInterval _ => true
  | .readTime => true
  | .setCounter _ _ _ _ _ _ => true
  | .readCounters => true
  | .setHistoryEnable _ => true
  | .readHistory => true
  | .readLink => true
  | .clearLinkCounts => true
  | .readConditions => true
  | .clearConditions _ => true
  | .setMask _ => true
  | .setAux _ => true
  | .clearAux _ => true
  | .setAuxSource _ _ => true
  | .identify => true
  | .reset => true
  | .saveSettings => true
  | .readStore => true
  | .unknownKind kind => !assignedKind kind
  | .frameReceived _ _ body _ => decide (body.length ≤ 248)
  | .frameTimeout => true
  | .replySent => true
  | .noticeSent => true
  | .powerOn _ => true
  | .resetPin _ => true
  | .supplyFall _ => true
  | .saveComplete => true
  | .startingLevel _ _ => true
  | .pedalPress => true
  | .pedalRelease => true
  | .platenUpConfirmed _ => true
  | .liftConfirmed _ => true
  | .gripConfirmed _ => true
  | .carryEndConfirmed _ => true
  | .releaseConfirmed => true
  | .parkConfirmed => true
  | .platenDownConfirmed => true
  | .phaseTimeout _ => true
  | .pageMotionChange _ _ => true
  | .settleExpiry => true
  | .settleLimitReached => true
  | .shotBegin => true
  | .cameraReadyChange _ _ => true
  | .readyWaitExpiry => true
  | .triggerTimerExpiry => true
  | .trigPulseEnd => true
  | .flashTimerExpiry => true
  | .turnBegin _ => true
  | .endRecord => true
  | .exposureEndPulse _ => true
  | .frameGraceExpiry => true
  | .lightCurtainIntruded => true
  | .lightCurtainCleared => true
  | .lampFaultAsserted _ => true
  | .lampFaultCleared _ => true
  | .previewTimerExpiry => true
  | .staleTimerExpiry => true
  | .timeBaseWrap => true
  | .durationMillisecond _ => true
  | .byteReceived _ => true
  | .feedbackInputDeasserted _ => true

end Sys2Proof
end

