-- ==== Sys2Proof/Certificates/Slice0/Obligations.lean ====
section
/-! DEFINITION. The statements for the provers, of the machine's step, its laws, and each command's effect. -/

open Sys2Proof Sys2Proof.Machine

/-! ### The machine -/

/-- One step takes the command at the front of the queue and runs it on the state with the queue's rest. That
commands wait in a queue, first in first out, is the model's choice (log 1). -/
def Obligations.StepRunsTheFrontCommand : Prop :=
  ∀ (c : Instr) (rest : List Instr) (s : State),
    step { s with pending := c :: rest } = exec c { s with pending := rest }

/-- With no command waiting, a step runs the part's own due event; with none due it samples the next input whose
sample is due, or, with no sample due, lets one microsecond pass, or begins the next samples when the debounce
period is over. A sample that differs from the confirmed level waits for its second; the second that agrees delivers
the change, or the starting level of an input that had none; one that agrees with the confirmed level leaves nothing
waiting (R35, R36). The gauge's level and the sampled pin are free values. The order of simultaneous events, the
step of one microsecond and the samples one a step are the model's choice (log 1, log 8, log 10, log 11). The part's
own events in the order in which those of one moment are taken: a timer that has run out, the end of the frame being
sent, the step of the run that may begin with the holding slot empty, and the older request whose handling is due. -/
def Obligations.IdleRunsTheOwnEvents : Prop :=
  ((∀ (s : State) (c : Instr), s.pending = [] → ownEvent .single s = some c →
      c ≠ .phaseTimeout .single → c ≠ .turnBegin .single → step s = exec c s) ∧
    (∀ s : State, s.pending = [] → ownEvent .single s = some (.phaseTimeout .single) →
      ∃ g, step s = exec (.phaseTimeout g) { s with freeReads := s.freeReads + 1 }) ∧
    (∀ s : State, s.pending = [] → ownEvent .single s = some (.turnBegin .single) →
      ∃ g, step s = exec (.turnBegin g) { s with freeReads := s.freeReads + 1 }) ∧
    (∀ s : State, s.pending = [] → ownEvent .single s = none → s.sampling.due = [] →
      let period := s.settings.debounce * 1000
      step s = .next (finish s
        (if s.sampling.timer.left = 0 then
          { s with sampling := { s.sampling with
              timer := { figure := period, left := period }
              due := [.pedal, .feedback .lift, .feedback .grip, .feedback .carryEnd, .feedback .release,
                .feedback .park, .feedback .platenUp, .feedback .platenDown, .pageMotion .left,
                .pageMotion .right, .lightCurtain, .cameraReady .left, .cameraReady .right, .lampFault 0,
                .lampFault 1, .lampFault 2, .lampFault 3, .lampFault 4, .lampFault 5, .lampFault 6,
                .lampFault 7] } }
        else elapse 1 s))) ∧
    (∀ (s : State) (i : SwitchInput) (rest : List SwitchInput),
      s.pending = [] → ownEvent .single s = none → s.sampling.due = i :: rest →
      let change (g : Gauge) (b : Bool) : Instr :=
        match i, b with
        | .pedal, true => .pedalPress
        | .pedal, false => .pedalRelease
        | .feedback .lift, true => .liftConfirmed g
        | .feedback .grip, true => .gripConfirmed g
        | .feedback .carryEnd, true => .carryEndConfirmed g
        | .feedback .release, true => .releaseConfirmed
        | .feedback .park, true => .parkConfirmed
        | .feedback .platenUp, true => .platenUpConfirmed g
        | .feedback .platenDown, true => .platenDownConfirmed
        | .feedback f, false => .feedbackInputDeasserted f
        | .pageMotion h, _ => .pageMotionChange h b
        | .lightCurtain, true => .lightCurtainIntruded
        | .lightCurtain, false => .lightCurtainCleared
        | .cameraReady h, _ => .cameraReadyChange h b
        | .lampFault n, true => .lampFaultAsserted n
        | .lampFault n, false => .lampFaultCleared n
      let level := levelOf i s.lmn
      let first := (s.sampling.waiting.find? fun w => w.1 == i).map fun w => w.2
      let others := s.sampling.waiting.filter fun w => w.1 != i
      let left (waiting : List (SwitchInput × Bool)) : State :=
        { s with freeReads := s.freeReads + 1
                 sampling := { s.sampling with due := rest, waiting := waiting } }
      ∃ (g : Gauge) (b : Bool), step s =
        if level = some b then .next (finish s (left others))
        else if first ≠ some b then .next (finish s (left ((i, b) :: others)))
        else if level = none then exec (.startingLevel i b) (left others)
        else exec (change g b) (left others))) ∧
  ((∀ (g : Gauge) (s : State),
      let passed (t : Option Timer) : Bool := t.any fun x => decide (x.left = 0)
      let step (f : ShotStep → Option Timer) : Option Timer := s.spu.pass.bind fun p => f p.step
      let timers : List (Bool × Instr) :=
        [(passed s.csq.phaseTimer, .phaseTimeout g), (passed s.csq.settleTimer, .settleExpiry),
         (passed s.csq.settleLimit, .settleLimitReached),
         (passed s.spu.left.trig || passed s.spu.right.trig, .trigPulseEnd),
         (passed (step fun | .flash t => t | _ => none), .triggerTimerExpiry),
         (passed (match s.light with | .flash f => some f.timer | _ => none), .flashTimerExpiry),
         (passed (step fun | .readyWait t => some t | _ => none), .readyWaitExpiry),
         (passed (step fun | .grace t => some t | _ => none), .frameGraceExpiry),
         (passed (match s.light with | .preview p => some p.timer | _ => none), .previewTimerExpiry),
         (passed s.rq.staleTimer, .staleTimerExpiry), (passed s.lif.gap, .frameTimeout),
         (passed (s.sto.save.map (·.timer)), .saveComplete)]
      let sent : Option Instr :=
        match s.lif.tx with
        | some t => if t.timer.left = 0 then some (if t.reply then .replySent else .noticeSent) else none
        | none => none
      let begins : Option Instr :=
        if s.csq.runState = .running ∧ s.rq.holding = none then
          match s.csq.awaiting with
          | some (.turn _) => some (.turnBegin g)
          | some .endRecord => some .endRecord
          | none => if s.spu.pass.any fun p => decide (p.step = .toBegin) then some .shotBegin else none
        else none
      let request : Option Instr :=
        match s.lif.slots with
        | r :: _ =>
          if s.lif.handled = false ∧ s.lif.outbox = [] then
            match decodeRequest r.kind r.body with
            | .request c => some c
            | .unknown kind => some (.unknownKind kind)
            | .badLength => none
          else none
        | [] => none
      ownEvent g s = ((timers.find? (·.1)).map (·.2) <|> sent <|> begins <|> request)) ∧
    (∀ (i : SwitchInput) (l : Lmn), levelOf i l =
      match i with
      | .pedal => l.pedal
      | .feedback .lift => l.lift
      | .feedback .grip => l.grip
      | .feedback .carryEnd => l.carryEnd
      | .feedback .release => l.release
      | .feedback .park => l.park
      | .feedback .platenUp => l.platenUp
      | .feedback .platenDown => l.platenDown
      | .pageMotion .left => l.motionLeft
      | .pageMotion .right => l.motionRight
      | .lightCurtain => l.curtain
      | .cameraReady .left => l.readyLeft
      | .cameraReady .right => l.readyRight
      | .lampFault n => l.lamps.get n))

/-- Every command ends in a next state, in every state, and none touches the commands that wait, nor the counter of
the free values but at the reset of a RESET request (log 13, log 31, log 33). -/
def Obligations.EveryCommandEndsInANextState : Prop :=
  ∀ (c : Instr) (s : State),
    ∃ t, exec c s = .next t ∧ t.pending = s.pending ∧
      (t.freeReads = s.freeReads ∨
        (c = .replySent ∧ t.lif.cause = .request ∧ t.freeReads = s.freeReads + 1))

/-- What a reply adds to the state its request leaves: one reply waits behind the others, of KIND the request's plus
0x80, with its tag from the slot it answers; a free transmitter takes up the first reply, with the link-status byte
as it stands, and what is seen from then on is for the next; the counters may count QUEUE_WAIT; and nothing else
changes (R139, R145, R146; log 5, log 6; the time on the line by log 7). Which request a reply answers: the one in
the older slot, while it is not handled and reads as the request; its TAG is the reply's, and is 0 where the request
was given as a command with no frame (R145; log 5). -/
def Obligations.ReplyChangesTheLinkAlone : Prop :=
  (∀ (c : Instr) (r : Result) (content : List Byte) (s u : State),
      let e := if queueWaiting s = queueWaiting u then u else edge .queueWait (queueWaiting u) u
      let fromSlot := claims (.request c) u.lif
      let reply : Reply :=
        { tag := if fromSlot then ((u.lif.slots.head?).map (·.tag)).getD 0 else 0
          kind := requestKind c + 0x80#8, result := r, content := content, fromSlot := fromSlot,
          resets := decide (c = .reset) }
      let first := u.lif.outbox.headD reply
      let bytes := frameBytes first.tag first.kind
        (resultCode first.result ::
          ((if u.lif.dropSeen then 1#8 else 0#8) ||| (if u.lif.checkSeen then 2#8 else 0#8)) ::
          first.content)
      let rate := strapRate u.lif.straps
      let time := (bytes.length * 10000000 + rate - 1) / rate
      answered c r content s u = { e with lif := { e.lif with
        outbox := u.lif.outbox ++ [reply]
        handled := u.lif.handled || fromSlot
        tx := match u.lif.tx with
          | some x => some x
          | none => some { reply := true, bytes := bytes, timer := { figure := time, left := time } }
        dropSince := u.lif.dropSince && u.lif.tx.isSome
        checkSince := u.lif.checkSince && u.lif.tx.isSome } }) ∧
  (∀ (d : Decoded) (l : Lif),
      (claims d l = true ↔ l.handled = false ∧ ∃ r rest, l.slots = r :: rest ∧ decodeRequest r.kind r.body = d) ∧
      replyTag d l =
        match l.slots with
        | r :: _ => if claims d l then r.tag else 0
        | [] => 0)

/-- What the close of an event that answers no request adds: a free transmitter takes up the first reply that waits,
or, with none, the notice that is due, of the condition set; the counters may count QUEUE_WAIT; and nothing else
changes (R139, R146; log 6; the time on the line by log 7). -/
def Obligations.EventChangesTheTransmitterAlone : Prop :=
  ∀ s u : State,
    let e := if queueWaiting s = queueWaiting u then u else edge .queueWait (queueWaiting u) u
    let rate := strapRate u.lif.straps
    let sending (isReply : Bool) (bytes : List Byte) : Sending :=
      let time := (bytes.length * 10000000 + rate - 1) / rate
      { reply := isReply, bytes := bytes, timer := { figure := time, left := time } }
    finish s u = { e with lif :=
      match u.lif.tx, u.lif.outbox with
      | some _, _ => e.lif
      | none, r :: _ => { e.lif with
          tx := some (sending true (frameBytes r.tag r.kind
            (resultCode r.result ::
              ((if u.lif.dropSeen then 1#8 else 0#8) ||| (if u.lif.checkSeen then 2#8 else 0#8)) ::
              r.content)))
          dropSince := false, checkSince := false }
      | none, [] =>
        if e.lif.noticeDue then
          { e.lif with
            tx := some (sending false (frameBytes 0 0xFF (leBytes 4 (conditionSet e).toNat)))
            noticeDue := false }
        else e.lif }

/-! ### Reset -/

/-- The machine right after reset, and that every law holds there. -/
def Obligations.ResetMeetsTheLaws : Prop :=
  SettingsLaw State.reset ∧ ConditionLaw State.reset ∧ LinkLaw State.reset ∧ DetourLaw State.reset ∧
  CountLaw State.reset ∧ RunLaw State.reset ∧ QueueLaw State.reset ∧ CeilingLaw State.reset ∧
  ShelfLaw State.reset ∧ PlaceLaw State.reset ∧ SumLaw State.reset ∧ SampleLaw State.reset

/-- What every kind of reset leaves: no volume, UNHOMED with every output off and the arm not certain, the guard
latch clear, no confirmed level, dark, no plan and no pass, an empty queue whose next record is number 1, the
counters and the time base at 0 with the history recording, an idle link with empty slots, RESET_SEEN with all 19
latched conditions enabled and no level condition, and the settings of the store, or the factory defaults with
SETTINGS_DEFAULTED where the store does not agree or a save was cut short. The fourth kind is the RESET request,
when its reply has been sent; each reads the strap pins (R36, R37, R61, R78, R116, R121, R134 to R136, R141, R143,
R147, R148, R150 to R152; the straps are an operand, and a free value at a RESET request, log 13; the first sample a
period later, log 10; the commands waiting stay, log 31). -/
def Obligations.EveryResetLeavesTheResetState : Prop :=
  ∀ (straps : BitVec 2) (s : State),
    let channel (c : Coverage) : Calibration :=
      { illuminance := 20000, weight := 1000, coverage := c, flashLimit := 2000, enabled := true }
    let factory : Settings :=
      { calibration := ⟨channel .left, channel .left, channel .left, channel .left, channel .right,
                        channel .right, channel .right, channel .right⟩
        timing := { platenUp := 1500, lift := 800, grip := 600, carry := 2500, release := 400,
                    returning := 2500, platenDown := 1500, interval := 400, multiplier := 8 }
        readyWait := 2000, frameGrace := 50, debounce := 5, capacity := 32, staleInterval := 5
        previewLimit := 120, guardEnable := true, auxSources := ⟨.manual, .manual, .manual, .manual⟩ }
    let stored := if s.sto.save = none then s.sto.stored else none
    let settings := stored.getD factory
    let counter : Counter :=
      { value := 0, event := .none, edge := false, threshold := 0, invert := false, residue := 0 }
    let left (straps : BitVec 2) (cause : ResetCause) : State :=
      { volume := none
        csq := { runState := .unhomed, scope := none, phase := .none, faultKind := none
                 armCertain := false, retries := 0, reasons := ⟨false, false, false, false, false⟩
                 resumePoint := none, setAside := none, haltPending := false, passOnce := false
                 stepMode := .off, unsettled := false, phaseTimer := none, settleTimer := none
                 settleLimit := none, settleStart := 0, settleRestarts := 0
                 actuators := ⟨false, false, false, false, false, .rest⟩, turn := none
                 awaiting := none }
        grd := { latch := false, readSeen := false, interrupted := false }
        lmn := { pedal := none, lift := none, grip := none, carryEnd := none, release := none
                 park := none, platenUp := none, platenDown := none, motionLeft := none
                 motionRight := none, curtain := none, readyLeft := none, readyRight := none
                 lamps := ⟨none, none, none, none, none, none, none, none⟩
                 auxManual := ⟨false, false, false, false⟩ }
        sampling := { timer := { figure := settings.debounce * 1000, left := settings.debounce * 1000 }
                      waiting := [], due := [] }
        light := .dark
        spu := { active := none, staged := none, pass := none,
                 left := { frames := 0, pending := false, trig := none },
                 right := { frames := 0, pending := false, trig := none } }
        rq := { fifo := [], holding := none, nextNumber := 1, mode := .head, accumulated := 0#16,
                staleTimer := none }
        cth := { timeBase := 0, a := counter, b := counter
                 tallies := { retries := 0, restarts := 0, fired := 0, withheld := 0, turnOpen := false
                              settleOpen := false, passOpen := false }
                 last := none, prior := none, fault := none, recording := true }
        lif :=
          { receiver := .hunting, gap := none, slots := [], handled := false, outbox := [], tx := none,
            noticeDue := true, dropSeen := false, checkSeen := false, dropSince := false,
            checkSince := false, drops := 0, checkErrors := 0, straps := straps,
            latched := if stored.isSome then 0x00000001#32 else 0x00000003#32,
            mask := 0x0007FFFF#32, cause := cause }
        settings := settings
        sto := { stored := stored, save := none, agreed := stored.isSome }
        pending := s.pending
        freeReads := s.freeReads }
    exec (.powerOn straps) s = .next (finish s (left straps .power)) ∧
    exec (.resetPin straps) s = .next (finish s (left straps .pin)) ∧
    exec (.supplyFall straps) s = .next (finish s (left straps .supply)) ∧
    ∀ t r rest, s.lif.tx = some t → t.reply = true → s.lif.outbox = r :: rest → r.resets = true →
      exec .replySent s = .next (finish s
        { left (Config.strapPins s.freeReads) .request with freeReads := s.freeReads + 1 })

/-! ### Laws that every step keeps -/

/-- Every setting, saved or working, stays in the range of its rule. Only latched conditions are ever latched, and
only assigned positions are ever enabled. The inputs are sampled with the debounce period in force, a retimed wait
is no longer than it, and at most one first sample of an input waits (R35; log 10). -/
def Obligations.StepKeepsSettingsAndConditions : Prop :=
  (∀ s t : State, SettingsLaw s → step s = .next t → SettingsLaw t) ∧
  (∀ s t : State, ConditionLaw s → step s = .next t → ConditionLaw t) ∧
  (∀ s t : State, SampleLaw s → step s = .next t → SampleLaw t)

/-- The receiver stays within a frame's bounds, and each request held in a slot has exactly one reply. -/
def Obligations.StepKeepsTheLinkLaw : Prop :=
  ∀ s t : State, LinkLaw s → step s = .next t → LinkLaw t

/-- The detour stays within 4 levels, 64 frames and 512 pool records, handed out in order, and a deferred entry
keeps its room. The span list stays in order over the text leaves, no leaf in two spans, and the leaves are 0 to N +
1. The position and the saved ones stay in range at their levels, the bottom of the stack an opening, and a turn
stays at level 0 with room for its move. -/
def Obligations.StepKeepsTheDetourLaw : Prop :=
  (∀ s t : State, DetourLaw s → step s = .next t → DetourLaw t) ∧
  (∀ s t : State, ShelfLaw s → step s = .next t → ShelfLaw t) ∧
  (∀ s t : State, RunLaw s → DetourLaw s → PlaceLaw s → step s = .next t → PlaceLaw t)

/-- Every count stays within its width; that of the settle restarts is the model's choice (log 17). -/
def Obligations.StepKeepsTheCountLaw : Prop :=
  ∀ s t : State, CountLaw s → step s = .next t → CountLaw t

/-- Passes, turns, waits, movements, light and the guard latch stay where the run state lets them be. -/
def Obligations.StepKeepsTheRunLaw : Prop :=
  ∀ s t : State, RunLaw s → step s = .next t → RunLaw t

/-- The FIFO holds at most its capacity, the holding slot is occupied only while it is full, and the records held
carry consecutive numbers: no record is ever lost for want of room. -/
def Obligations.StepKeepsTheQueueLaw : Prop :=
  ∀ s t : State, RunLaw s → QueueLaw s → step s = .next t → QueueLaw t

/-- No side accumulator ever passes the side ceiling, and the volume accumulator never passes the volume ceiling,
whatever light is on and however it ends. -/
def Obligations.StepKeepsTheCeilings : Prop :=
  ∀ s t : State, RunLaw s → CeilingLaw s → step s = .next t → CeilingLaw t

/-! ### The link's encodings -/

/-- Every well-formed request reads back from its KIND and BODY. The KIND and the BODY of every request, by the
table of R153, and of no other command; the assigned KIND codes are those of the requests, and any other reads as
unknown. -/
def Obligations.EncodedRequestsReadBack : Prop :=
  (∀ (c : Instr) (kind : Byte) (body : List Byte),
      WellFormed c = true → encodeRequest c = some (kind, body) → decodeRequest kind body = .request c) ∧
  ((∀ c : Instr, encodeRequest c =
      match c with
      | .openVolume mark job leaves cls side whole => some (0x01, num 1 mark.length ++ mark ++
          num 4 job.toNat ++ num 2 leaves.toNat ++ num 1 cls.toNat ++ num 4 side.toNat ++ num 6 whole.toNat)
      | .closeVolume => some (0x02, [])
      | .queryVolume => some (0x03, [])
      | .defineSpan first count style start => some (0x04,
          num 2 first.toNat ++ num 2 count.toNat ++ num 1 style.toNat ++ num 2 start.toNat)
      | .deleteSpan first => some (0x05, num 2 first.toNat)
      | .querySpan index => some (0x06, num 1 index.toNat)
      | .markLeaf leaf override recto verso => some (0x07,
          num 2 leaf.toNat ++ num 1 override.toNat ++ num 1 recto.toNat ++ num 1 verso.toNat)
      | .queryLeaf leaf => some (0x08, num 2 leaf.toNat)
      | .setPosition opening => some (0x09, num 2 opening.toNat)
      | .setMark mark enabled cls first last => some (0x0A, num 1 mark.toNat ++ num 1 enabled.toNat ++
          num 1 cls.toNat ++ num 2 first.toNat ++ num 2 last.toNat)
      | .clearMark mark => some (0x0B, num 1 mark.toNat)
      | .queryMarks => some (0x0C, [])
      | .enterInsert half sides => some (0x10, num 1 half.toNat ++ num 1 sides.toNat)
      | .advance => some (0x11, [])
      | .leaveInsert => some (0x12, [])
      | .queryInsert frame side => some (0x13, num 1 frame.toNat ++ num 1 side.toNat)
      | .setDebounce period => some (0x18, num 1 period.toNat)
      | .home => some (0x19, [])
      | .arm => some (0x1A, [])
      | .disarm => some (0x1B, [])
      | .run flags => some (0x1C, num 1 flags.toNat)
      | .turn direction => some (0x1D, num 1 direction.toNat)
      | .capture => some (0x1E, [])
      | .platenUp => some (0x1F, [])
      | .platenDown => some (0x20, [])
      | .recover opening => some (0x21, num 2 opening.toNat)
      | .setTurnTiming t => some (0x22, num 2 t.platenUp.toNat ++ num 2 t.lift.toNat ++
          num 2 t.grip.toNat ++ num 2 t.carry.toNat ++ num 2 t.release.toNat ++ num 2 t.returning.toNat ++
          num 2 t.platenDown.toNat ++ num 2 t.interval.toNat ++ num 1 t.multiplier.toNat)
      | .queryTurnTiming => some (0x23, [])
      | .setStep mode => some (0x28, num 1 mode.toNat)
      | .resume flags => some (0x29, num 1 flags.toNat)
      | .halt => some (0x2A, [])
      | .abort => some (0x2B, [])
      | .setGuardEnable enable => some (0x2C, num 1 enable.toNat)
      | .readGuard => some (0x2D, [])
      | .clearGuard => some (0x2E, [])
      | .setCalibration channel illuminance weight coverage limit enabled => some (0x30,
          num 1 channel.toNat ++ num 4 illuminance.toNat ++ num 2 weight.toNat ++ num 1 coverage.toNat ++
          num 2 limit.toNat ++ num 1 enabled.toNat)
      | .queryCalibration channel => some (0x31, num 1 channel.toNat)
      | .previewOn drives => some (0x32, drives.toList.flatMap fun d => num 2 d.toNat)
      | .previewOff => some (0x33, [])
      | .setPreviewLimit seconds => some (0x34, num 2 seconds.toNat)
      | .readLights => some (0x35, [])
      | .setCeilings side whole => some (0x38, num 4 side.toNat ++ num 6 whole.toNat)
      | .readDose => some (0x39, [])
      | .loadPlan flags id shots => some (0x40, num 1 flags.toNat ++ num 2 id.toNat ++ num 1 shots.length ++
          shots.flatMap fun x => num 1 x.cameras.toNat ++ (x.drives.toList.flatMap fun d => num 2 d.toNat) ++
            num 4 x.onTime.toNat ++ num 4 x.delay.toNat ++ num 1 x.tag.toNat ++ num 1 x.policy.toNat)
      | .queryPlan slot => some (0x41, num 1 slot.toNat)
      | .readCameras => some (0x42, [])
      | .setCameraTiming wait grace => some (0x43, num 2 wait.toNat ++ num 2 grace.toNat)
      | .queryCameraTiming => some (0x44, [])
      | .takeResult => some (0x48, [])
      | .peekResult => some (0x49, [])
      | .readQueue => some (0x4A, [])
      | .flushResults => some (0x4B, [])
      | .setQueueCapacity capacity => some (0x4C, num 1 capacity.toNat)
      | .setSummaryMode mode => some (0x4D, num 1 mode.toNat)
      | .clearSummary => some (0x4E, [])
      | .setStaleInterval seconds => some (0x4F, num 1 seconds.toNat)
      | .readTime => some (0x50, [])
      | .setCounter counter value event edge threshold invert => some (0x51,
          num 1 counter.toNat ++ num 4 value.toNat ++ num 1 event.toNat ++ num 1 edge.toNat ++
          num 1 threshold.toNat ++ num 1 invert.toNat)
      | .readCounters => some (0x52, [])
      | .setHistoryEnable enable => some (0x53, num 1 enable.toNat)
      | .readHistory => some (0x54, [])
      | .readLink => some (0x58, [])
      | .clearLinkCounts => some (0x59, [])
      | .readConditions => some (0x5A, [])
      | .clearConditions mask => some (0x5B, num 4 mask.toNat)
      | .setMask mask => some (0x5C, num 4 mask.toNat)
      | .setAux mask => some (0x60, num 1 mask.toNat)
      | .clearAux mask => some (0x61, num 1 mask.toNat)
      | .setAuxSource output source => some (0x62, num 1 output.toNat ++ num 1 source.toNat)
      | .identify => some (0x68, [])
      | .reset => some (0x69, [])
      | .saveSettings => some (0x6A, [])
      | .readStore => some (0x6B, [])
      | _ => none) ∧
    (∀ c, requestKind c = ((encodeRequest c).map (·.1)).getD 0) ∧
    (∀ kind, assignedKind kind = true ↔ ∃ c body, encodeRequest c = some (kind, body)) ∧
    (∀ kind body, decodeRequest kind body = .unknown kind ↔ assignedKind kind = false))

/-- A request is spelled by one KIND and one BODY alone: no byte of a body that is read is dropped. -/
def Obligations.ReadRequestsWriteBack : Prop :=
  ∀ (kind : Byte) (body : List Byte) (c : Instr),
    decodeRequest kind body = .request c → encodeRequest c = some (kind, body)

/-- The bytes of a frame with a body of at most 248 bytes, received one after another by a hunting receiver, are
taken as exactly that frame, and the receiver hunts again. The bytes of numbers and sets; of a frame, with its
CHECK, sent high byte first; of the result codes; and the rate that the strap pins select (R143, R145, R153, section
10.6). -/
def Obligations.FrameBytesAreReceivedWhole : Prop :=
  (∀ (tag kind : Byte) (body : List Byte) (s : State),
      body.length ≤ 248 → s.lif.receiver = .hunting → s.lif.gap = none →
      (frameBytes tag kind body).foldl (fun u b => receiveByte b u) s =
        offerFrame { tag := tag, kind := kind, body := body } s) ∧
  ((∀ k n, leBytes k n = (List.range k).map fun i => BitVec.ofNat 8 (n / 256 ^ i)) ∧
    (∀ b, bit b = [if b then 1 else 0]) ∧
    (∀ v : Eight Bool, set8 v = [BitVec.ofNat 8 (((List.finRange 8).map fun n =>
      if v.get n then 2 ^ n.val else 0).sum)]) ∧
    (∀ (tag kind : Byte) (body : List Byte),
      let len : Byte := BitVec.ofNat 8 (body.length + 2)
      let shift (c : BitVec 16) : BitVec 16 := if c.msb then (c <<< 1) ^^^ 0x1021 else c <<< 1
      let take (crc : BitVec 16) (b : Byte) : BitVec 16 :=
        (List.range 8).foldl (fun c _ => shift c) (crc ^^^ (b.zeroExtend 16 <<< 8))
      let check := (len :: tag :: kind :: body).foldl take 0xFFFF
      frameCheck tag kind body = check ∧
      frameBytes tag kind body = 0xA5 :: len :: tag :: kind :: body ++
        [BitVec.ofNat 8 (check.toNat / 256), BitVec.ofNat 8 check.toNat]) ∧
    (∀ r : Result, resultCode r =
      match r with
      | .ok => 0
      | .deferred => 1
      | .busy => 2
      | .state => 3
      | .range => 4
      | .full => 5
      | .guard => 6
      | .length => 7
      | .unknown => 8) ∧
    strapRate 0 = 115200 ∧ strapRate 1 = 230400 ∧ strapRate 2 = 460800 ∧ strapRate 3 = 921600)

/-! ### What the blocks do for one another -/

/-- Reporting an event: each counter whose event it is adds 1, except a counter with a threshold of 1 or more on a
scoped event, whose scope's tally rises instead while it is open; a value that passes 4,294,967,295 wraps and sets
COUNTER_OVERFLOW, which, newly set and enabled, makes a notice due; nothing else changes (R136 to R138, R140, R146).
An entry or exit of a duration condition is counted by the counters of that selector with edge set, at entries or,
inverted, at exits (R139). The judgement of a scope that closes: its tallies return to 0, and a counter of the event
with a threshold of 1 or more adds 1 where the tally reached the threshold, or, inverted, where it did not; a value
that wraps sets COUNTER_OVERFLOW as an event's does, and nothing else changes (R138, R140). -/
def Obligations.CountersCount : Prop :=
  (∀ (e : CounterEvent) (entry : Bool) (s : State),
      let bump (hit : Bool) (c : Counter) : Counter :=
        if hit then { c with value := (c.value + 1) % 4294967296 } else c
      let wraps (hit : Bool) (c : Counter) : Bool := hit && decide (c.value + 1 ≥ 4294967296)
      let told (wrapped : Bool) : Lif :=
        if wrapped then { s.lif with
          latched := s.lif.latched ||| 0x00020000#32
          noticeDue := s.lif.noticeDue || (s.lif.mask.getLsbD 17 && !s.lif.latched.getLsbD 17) }
        else s.lif
      let inScope : Bool := e == .turnRetries || e == .settleRestarts || e == .shotsFired || e == .shotsWithheld
      let hit (c : Counter) : Bool := c.event == e && (!inScope || c.threshold == 0)
      let edged (c : Counter) : Bool := c.event == e && c.edge && (entry != c.invert)
      let up (n : Nat) : Nat := if n < 65535 then n + 1 else n
      event e s = { s with
        lif := told (wraps (hit s.cth.a) s.cth.a || wraps (hit s.cth.b) s.cth.b)
        cth := { s.cth with
          a := bump (hit s.cth.a) s.cth.a
          b := bump (hit s.cth.b) s.cth.b
          tallies := { s.cth.tallies with
            retries := if e = .turnRetries ∧ s.cth.tallies.turnOpen then up s.cth.tallies.retries
              else s.cth.tallies.retries
            restarts :=
              if e = .settleRestarts ∧ (s.cth.tallies.turnOpen ∨ s.cth.tallies.settleOpen) then
                up s.cth.tallies.restarts
              else s.cth.tallies.restarts
            fired := if e = .shotsFired ∧ s.cth.tallies.passOpen then up s.cth.tallies.fired
              else s.cth.tallies.fired
            withheld := if e = .shotsWithheld ∧ s.cth.tallies.passOpen then up s.cth.tallies.withheld
              else s.cth.tallies.withheld } } } ∧
      edge e entry s = { s with
        lif := told (wraps (edged s.cth.a) s.cth.a || wraps (edged s.cth.b) s.cth.b)
        cth := { s.cth with a := bump (edged s.cth.a) s.cth.a, b := bump (edged s.cth.b) s.cth.b } }) ∧
  (∀ s : State,
      let add (c : Counter) (b : Bool) : Counter :=
        if b then { c with value := (c.value + 1) % 4294967296 } else c
      let wraps (c : Counter) (b : Bool) : Bool := b && decide (c.value + 1 ≥ 4294967296)
      let told (b : Counter → Bool) : Lif :=
        if wraps s.cth.a (b s.cth.a) || wraps s.cth.b (b s.cth.b) then { s.lif with
          latched := s.lif.latched ||| 0x00020000#32
          noticeDue := s.lif.noticeDue || (s.lif.mask.getLsbD 17 && !s.lif.latched.getLsbD 17) }
        else s.lif
      let meets (e : CounterEvent) (tally : Nat) (c : Counter) : Bool :=
        c.event == e && decide (1 ≤ c.threshold) && (decide (c.threshold ≤ tally) != c.invert)
      let pass (c : Counter) : Bool :=
        meets .shotsFired s.cth.tallies.fired c || meets .shotsWithheld s.cth.tallies.withheld c
      let turn (c : Counter) : Bool :=
        meets .turnRetries s.cth.tallies.retries c || meets .settleRestarts s.cth.tallies.restarts c
      let settle (c : Counter) : Bool := meets .settleRestarts s.cth.tallies.restarts c
      closePassScope s = { s with
        lif := told pass
        cth := { s.cth with
          a := add s.cth.a (pass s.cth.a), b := add s.cth.b (pass s.cth.b)
          tallies := { s.cth.tallies with fired := 0, withheld := 0, passOpen := false } } } ∧
      closeTurnScope s = { s with
        lif := told turn
        cth := { s.cth with
          a := add s.cth.a (turn s.cth.a), b := add s.cth.b (turn s.cth.b)
          tallies := { s.cth.tallies with retries := 0, restarts := 0, turnOpen := false } } } ∧
      closeSettleScope s =
        if s.cth.tallies.settleOpen then
          { s with
            lif := told settle
            cth := { s.cth with
              a := add s.cth.a (settle s.cth.a), b := add s.cth.b (settle s.cth.b)
              tallies := { s.cth.tallies with restarts := 0, settleOpen := false } } }
        else s)

/-- The passing of `n` µs: the time base rises modulo 2^48; a counter of the duration class with edge clear adds the
milliseconds its condition stood (QUEUE_WAIT while a step of a run waits on the holding slot), or, inverted, did
not, keeps the rest as residue, and sets COUNTER_OVERFLOW where its value wraps, which, newly set and enabled, makes
a notice due; every timer runs on; and nothing else changes (R135, R139, R140, R146; the time an event lets pass is
the model's choice, log 2). -/
def Obligations.TimePasses : Prop :=
  ∀ (n : Nat) (s : State),
    let counts (c : Counter) : Bool :=
      !c.edge &&
        (match c.event with
          | .running => (s.csq.runState == .running) != c.invert
          | .held => (s.csq.runState == .held) != c.invert
          | .queueWait => queueWaiting s != c.invert
          | .previewOn => previewing s != c.invert
          | _ => false)
    let reached (c : Counter) : Nat := c.value + (c.residue + n) / 1000
    let counted (c : Counter) : Counter :=
      if counts c then { c with value := reached c % 2 ^ 32, residue := (c.residue + n) % 1000 } else c
    let wraps (c : Counter) : Bool := counts c && decide (2 ^ 32 ≤ reached c)
    let overflow := wraps s.cth.a || wraps s.cth.b
    let run (t : Timer) : Timer := { t with left := t.left - n }
    queueWaiting s = (decide (s.csq.runState = .running) && s.rq.holding.isSome &&
      (s.csq.awaiting.isSome || s.spu.pass.any fun p => decide (p.step = .toBegin))) ∧
    (previewing s = true ↔ ∃ p, s.light = .preview p) ∧
    elapse n s = { s with
      cth := { s.cth with
        timeBase := (s.cth.timeBase + n) % 2 ^ 48, a := counted s.cth.a, b := counted s.cth.b }
      csq := { s.csq with
        phaseTimer := s.csq.phaseTimer.map run, settleTimer := s.csq.settleTimer.map run
        settleLimit := s.csq.settleLimit.map run }
      sampling := { s.sampling with timer := run s.sampling.timer }
      rq := { s.rq with staleTimer := s.rq.staleTimer.map run }
      sto := { s.sto with save := s.sto.save.map fun v => { v with timer := run v.timer } }
      light :=
        (match s.light with
          | .dark => .dark
          | .flash f => .flash { f with timer := run f.timer }
          | .preview p => .preview { p with timer := run p.timer, limitLeft := p.limitLeft - n })
      spu := { s.spu with
        left := { s.spu.left with trig := s.spu.left.trig.map run }
        right := { s.spu.right with trig := s.spu.right.trig.map run }
        pass := s.spu.pass.map fun p => { p with
          step := match p.step with
            | .between => .between
            | .toBegin => .toBegin
            | .readyWait x => .readyWait (run x)
            | .flash x => .flash (x.map run)
            | .grace x => .grace (run x) } }
      lif := { s.lif with
        latched := if overflow then s.lif.latched ||| 0x00020000#32 else s.lif.latched
        noticeDue := s.lif.noticeDue ||
          (overflow && s.lif.mask.getLsbD 17 && !s.lif.latched.getLsbD 17)
        tx := s.lif.tx.map fun x => { x with timer := run x.timer }
        gap := s.lif.gap.map run } }

/-- A record handed over is given the next record number, which rises by 1 modulo 2^32, and the time base as its
stamp; it stands at the tail of the FIFO, or in the holding slot where the FIFO is full; entering an empty FIFO it
reaches the head, so that its flags join the accumulated summary and the stale timer starts, unless the stale
interval is 0; a level condition that rises may make a notice due, and nothing else changes (R123, R126, R132 to
R134, R146). The bytes of a record: its 13-byte header and its body by section 10.6. In a TURN record a turn
duration of 2^32 ms or more is a free value (log 18). -/
def Obligations.RecordsAreHandedOver : Prop :=
  (∀ (flags : BitVec 16) (body : RecordBody) (s : State),
      let r : Record := { number := s.rq.nextNumber, stamp := s.cth.timeBase, flags := flags, body := body }
      let next := (s.rq.nextNumber + 1) % 4294967296
      let room := decide (s.rq.fifo.length < s.settings.capacity)
      let rises := if room then s.rq.fifo.isEmpty && s.lif.mask.getLsbD 24 else s.lif.mask.getLsbD 25
      handOver flags body s =
        { s with
          lif := { s.lif with noticeDue := s.lif.noticeDue || rises }
          rq :=
            if room then
              if s.rq.fifo = [] then
                { s.rq with
                  nextNumber := next, fifo := [r], accumulated := s.rq.accumulated ||| flags
                  staleTimer := if s.settings.staleInterval = 0 then none
                    else some { figure := s.settings.staleInterval * 1000000,
                                left := s.settings.staleInterval * 1000000 } }
              else { s.rq with nextNumber := next, fifo := s.rq.fifo ++ [r] }
            else { s.rq with nextNumber := next, holding := some r } }) ∧
  (∀ r : Record,
      let label (l : Label) : List Byte :=
        num 1 (match l.style with
          | .arabic => 0
          | .roman => 1
          | .folio => 2
          | .plate => 3
          | .unnumbered => 4
          | .board => 5) ++ num 2 l.number
      let side (x : SideId) : List Byte :=
        match x with
        | .absent => zeros 7
        | .leaf exposed n face l => num 1 (if exposed then 2 else 1) ++ num 2 n ++
            num 1 (match face with
              | .recto => 0
              | .verso => 1) ++ label l
        | .insert f i => num 1 3 ++ num 2 f ++ num 1 i ++ zeros 3
      let place (p : Position) : List Byte :=
        match p with
        | .opening k => num 2 k ++ num 1 0
        | .insert f i => num 2 f ++ num 1 i
      let direction (d : Direction) : List Byte := num 1 (match d with
        | .forward => 0
        | .backward => 1)
      let result (x : TurnResult) : List Byte := num 1 (match x with
        | .complete => 0
        | .fault .gripFail => 1
        | .fault .doubleLeaf => 2
        | .fault .motionTimeout => 3
        | .fault .aborted => 4
        | .fault .guard => 5)
      let parent (f : InsertFrame) (found : SideId) : List Byte :=
        match f.parent with
        | .opening k half => num 2 k ++ num 1 (match half with
            | .left => 0
            | .right => 1) ++ side found
        | .insert g i => num 2 g ++ num 1 i ++ zeros 7
      let header (kind : Nat) : List Byte :=
        num 1 kind ++ num 4 r.number ++ num 6 r.stamp ++ num 2 r.flags.toNat
      encRecord r =
        match r.body with
        | .shot x => header 1 ++ (num 2 x.planId ++ num 1 x.index ++ num 1 x.tag ++
            (num 1 x.level ++ place x.position) ++ side x.left ++ side x.right ++
            num 1 ((if x.triggeredLeft then 1 else 0) + (if x.triggeredRight then 2 else 0)) ++
            num 1 ((if x.frameLeft.isSome then 1 else 0) + (if x.frameRight.isSome then 2 else 0) +
              (if x.predicted.isSome then 4 else 0)) ++
            num 4 (x.frameLeft.getD 0) ++ num 4 (x.frameRight.getD 0) ++ num 4 x.onTime ++
            num 4 x.doseLeft ++ num 4 x.doseRight ++
            (match x.predicted with
              | some (l, rt) => num 6 l ++ num 6 rt
              | none => []))
        | .turn x => header 2 ++ (direction x.direction ++ num 2 x.leaf ++ num 2 x.fromOpening ++
            num 2 x.toOpening ++ result x.result ++ bit x.hand ++ num 1 x.retries ++
            num 2 x.settleRestarts ++ num 4 x.settleDuration ++
            num 4 (if x.turnDuration < 2 ^ 32 then x.turnDuration
              else (Config.overlongDuration x.turnDuration).toNat))
        | .detour x => header 3 ++ (num 1 (if x.enter then 0 else 1) ++ num 1 x.frame.ordinal ++
            num 1 x.frame.depth ++ num 1 x.frame.sides ++ bit x.deferred ++ parent x.frame x.parentSide ++
            (num 1 x.shelfMark.length ++ x.shelfMark))
        | .finish x => header 4 ++ (num 1 x.shelfMark.length ++ x.shelfMark ++ num 4 x.job ++
            num 6 x.accumulator ++ num 4 x.fired ++ num 4 x.withheld ++ num 4 x.turnsCompleted))

/-- A change of run state, a hold and the end of a run: RUNNING and HELD are exited and entered for the duration
counters, a hold stands in HELD with its reasons and resume point and is counted, and a run that ends leaves ARMED
with no scope, no phase, no reasons and nothing pending (R38, R62, R63, R139, R147). What setting a condition does:
its bit of section 10.6 is set, and where it was clear and is enabled a notice falls due; a level condition that
rises makes a notice due where it is enabled. The condition set is what is latched and the level conditions that
stand: QUEUE_NONEMPTY, QUEUE_HOLDING and HELD_NOW (R134, R146, R147). -/
def Obligations.RunStateChanges : Prop :=
  (∀ (r : RunState) (reasons : Reasons) (point : ResumePoint) (s : State),
      let left (u : State) : State :=
        if s.csq.runState = .running then edge .running false u
        else if s.csq.runState = .held then edge .held false u else u
      let entered (x : RunState) (u : State) : State :=
        if x = .running then edge .running true u
        else if x = .held then riseLevel .heldNow (edge .held true u) else u
      (s.csq.runState ≠ r →
        setRunState r s = entered r { left s with csq := { s.csq with runState := r } }) ∧
      (s.csq.runState = r → setRunState r s = s) ∧
      enterHeld reasons point s = event .holdsEntered { setRunState .held s with
        csq := { s.csq with runState := .held, phase := .none, reasons := reasons,
                            resumePoint := some point } } ∧
      endRun s = { setRunState .armed s with
        csq := { s.csq with
          runState := .armed, scope := none, phase := .none, reasons := ⟨false, false, false, false, false⟩,
          resumePoint := none, setAside := none, haltPending := false, passOnce := false,
          awaiting := none } }) ∧
  (∀ s : State,
      (∀ c : Cond,
        let n : Nat := match c with
          | .resetSeen => 0
          | .settingsDefaulted => 1
          | .homeFail => 2
          | .turnFault => 3
          | .guard => 4
          | .markHit => 5
          | .handTurnWait => 6
          | .cameraNotReady => 7
          | .doseWithheld => 8
          | .doseCeiling => 9
          | .previewLimit => 10
          | .planTaken => 11
          | .settleLimit => 12
          | .lampFault => 13
          | .strayFrame => 14
          | .queueStale => 15
          | .volumeEnd => 16
          | .counterOverflow => 17
          | .linkError => 18
          | .queueNonempty => 24
          | .queueHolding => 25
          | .heldNow => 26
        let told : Bool := s.lif.noticeDue || s.lif.mask.getLsbD n
        setCond c s =
          (if s.lif.latched.getLsbD n then s
          else { s with lif := { s.lif with
            latched := s.lif.latched ||| BitVec.twoPow 32 n, noticeDue := told } }) ∧
        riseLevel c s = { s with lif := { s.lif with noticeDue := told } }) ∧
      levelConditions s =
        (if s.rq.fifo = [] then 0 else 0x01000000) ||| (if s.rq.holding = none then 0 else 0x02000000) |||
          (if s.csq.runState = .held then 0x04000000 else 0) ∧
      conditionSet s = s.lif.latched ||| levelConditions s)

/-- A posting adds its two doses to the two sides and to the volume: where the two sides are present and are not one
record, the volume accumulator keeps step with the sum of all side accumulators, and the peak is at least each of
the two (R97, R103). So every step keeps the volume accumulator equal to the sum of all side accumulators, and the
peak equal to the largest of them. -/
def Obligations.PostingKeepsTheSum : Prop :=
  (∀ (v : Volume) (left right : SideRef) (dl dr : Nat),
    (sideAt v left).isSome → (sideAt v right).isSome →
    (∀ f i g j, left = .insert f i → right = .insert g j → poolIndex v f i ≠ poolIndex v g j) →
    left ≠ right →
    let w := postDose left right dl dr v
    w.accumulator = v.accumulator + (dl + dr) ∧ (allDoses w).sum = (allDoses v).sum + (dl + dr) ∧
    doseAt w left = doseAt v left + dl ∧ doseAt w right = doseAt v right + dr ∧
    w.peak = max v.peak (max (doseAt v left + dl) (doseAt v right + dr)) ∧
    ∀ ref, ref ≠ left → ref ≠ right →
      (∀ f i g j, ref = .insert f i → (left = .insert g j ∨ right = .insert g j) →
        poolIndex v f i ≠ poolIndex v g j) →
      doseAt w ref = doseAt v ref) ∧
  (∀ s t : State, ShelfLaw s → DetourLaw s → PlaceLaw s → SumLaw s → step s = .next t → SumLaw t)

/-- A shot that may fire stays under the ceilings however long its flash is lit, up to the planned time: what the
tests of the prediction allow, the posting keeps (R94, R95, R97, R98). A preview period no longer than its cut time
stays under the ceilings, on each side and in the volume, though each dose is rounded up (R94, R100, R101). The
terms of these and of the prediction: the effective on-time is the least of the shot's and of the flash limits of
the lit set (R81); a side's rate is the sum of illuminance, drive and weight of the lit channels that reach it (R92,
R93); a shot may fire where each dose fits under its ceiling (R95); a dose is the rate times the time over 10^9,
rounded up (R94); the cut time is the least of each lit side's remaining amount over its rate and of the volume's
over both, with 1 held back where both are lit, rounded down, within 48 bits (R100). -/
def Obligations.LightStaysUnderTheCeilings : Prop :=
  (∀ (v : Volume) (ql qr planned lit : Nat),
      mayFire v (doseOf ql planned) (doseOf qr planned) = true → lit ≤ planned →
      (doseAt v (leftSide v) ≤ v.sideCeiling → doseAt v (leftSide v) + doseOf ql lit ≤ v.sideCeiling) ∧
      (doseAt v (rightSide v) ≤ v.sideCeiling → doseAt v (rightSide v) + doseOf qr lit ≤ v.sideCeiling) ∧
      v.accumulator + (doseOf ql lit + doseOf qr lit) ≤ v.volumeCeiling) ∧
  (∀ (v : Volume) (ql qr lit : Nat),
      doseAt v (leftSide v) ≤ v.sideCeiling → doseAt v (rightSide v) ≤ v.sideCeiling →
      v.accumulator ≤ v.volumeCeiling → (∀ cut, cutTime v ql qr = some cut → lit ≤ cut) →
      doseAt v (leftSide v) + doseOf ql lit ≤ v.sideCeiling ∧
      doseAt v (rightSide v) + doseOf qr lit ≤ v.sideCeiling ∧
      v.accumulator + (doseOf ql lit + doseOf qr lit) ≤ v.volumeCeiling) ∧
  ((∀ (lit : Eight Bool) (drives : Eight Nat) (onTime : Nat) (s : State),
      let channel (n : Fin 8) : Calibration := s.settings.calibration.get n
      let rate (other : Coverage) : Nat := ((List.finRange 8).map fun n =>
        if lit.get n = true ∧ (channel n).coverage ≠ other then
          (channel n).illuminance * drives.get n * (channel n).weight
        else 0).sum
      let t := effectiveOnTime lit onTime s
      (t ≤ onTime ∧ (∀ n, lit.get n = true → t ≤ (channel n).flashLimit * 1000) ∧
        (t = onTime ∨ ∃ n, lit.get n = true ∧ t = (channel n).flashLimit * 1000)) ∧
      sideRate .left lit drives s = rate .right ∧ sideRate .right lit drives s = rate .left) ∧
    (∀ q t : Nat, q * t ≤ doseOf q t * 1000000000 ∧ ∀ d, q * t ≤ d * 1000000000 → doseOf q t ≤ d) ∧
    (∀ (v : Volume) (ql qr : Nat),
      let sideLeft := v.sideCeiling - doseAt v (leftSide v)
      let sideRight := v.sideCeiling - doseAt v (rightSide v)
      let whole := v.volumeCeiling - v.accumulator
      let terms : List Nat :=
        (if 0 < ql then [sideLeft * 1000000000 / ql] else []) ++
        (if 0 < qr then [sideRight * 1000000000 / qr] else []) ++
        (if 0 < ql ∧ 0 < qr then [(whole - 1) * 1000000000 / (ql + qr)]
         else if 0 < ql + qr then [whole * 1000000000 / (ql + qr)] else [])
      (∀ pl pr, mayFire v pl pr = true ↔
        (pl = 0 ∨ doseAt v (leftSide v) + pl ≤ v.sideCeiling) ∧
        (pr = 0 ∨ doseAt v (rightSide v) + pr ≤ v.sideCeiling) ∧
        v.accumulator + (pl + pr) ≤ v.volumeCeiling) ∧
      cutTime v ql qr = if terms = [] then none else some (terms.foldl min (2 ^ 48 - 1))))

/-! ### Requests of the volume accounting unit (chapters 1, 2 and 6) -/

/-- With no volume open, the twelve requests that need one are refused STATE (R5). OPEN VOLUME: its checks in order,
and the volume it sets up: the fields of the request with a ceiling field of 0 taken as its default, nothing counted
or dosed, no span, mark, insert or detour, two boards and N text leaves each with blank side records, and the
position at opening 0 (R2, R3, R12). CLOSE VOLUME: its checks in order, and nothing of the volume left (R4). QUERY
VOLUME and READ DOSE are taken in every state, reply OK, and change nothing: the report of the open volume, or that
there is none (R6, R105). QUERY VOLUME's and READ DOSE's contents in bytes: with no volume open every item is
absent, the shelf mark one zero byte, and at level 0 the underlying opening is two zero bytes (log 15, log 37); the
side behind each half is named in 4 bytes (log 16). READ DOSE ends with the dose and remaining amount of the left
side and then of the right (log 41). -/
def Obligations.VolumeRequests : Prop :=
  (∀ (s : State), s.volume = none →
      ∀ c : Instr,
        ((∃ a b d e, c = .defineSpan a b d e) ∨ (∃ a, c = .deleteSpan a) ∨ (∃ a, c = .querySpan a) ∨
          (∃ a b d e, c = .markLeaf a b d e) ∨ (∃ a, c = .queryLeaf a) ∨ (∃ a, c = .setPosition a) ∨
          (∃ a b d e f, c = .setMark a b d e f) ∨ (∃ a, c = .clearMark a) ∨ (∃ a b, c = .setCeilings a b) ∨
          (∃ a b, c = .enterInsert a b) ∨ c = .advance ∨ c = .leaveInsert) →
        exec c s = .next (refused c .state s)) ∧
  ((∀ (mark : List Byte) (job : BitVec 32) (n : BitVec 16) (cls : Byte) (side : BitVec 32)
        (whole : BitVec 48) (s : State),
      let c : Instr := .openVolume mark job n cls side whole
      let blank : SideRecord := { capture := .none, shots := 0, retakes := 0, dose := 0, lastRecord := none }
      let leaf (recto verso : Option SideRecord) : LeafRecord :=
        { override := .auto, handTurned := false, turnFaulted := false, hasInserts := false,
          recto := recto, verso := verso }
      let side' := if side = 0 then 5000000 else side.toNat
      let whole' := if whole = 0 then 2000000000 else whole.toNat
      let opened (h : HandlingClass) : Volume :=
        { shelfMark := mark, job := job.toNat, leafCount := n.toNat, handling := h,
          sideCeiling := side', volumeCeiling := whole', accumulator := 0, peak := 0, fired := 0,
          withheld := 0, turnsCompleted := 0, spans := []
          leaves := [leaf none (some blank)] ++ List.replicate n.toNat (leaf (some blank) (some blank)) ++
            [leaf (some blank) none]
          marks := Four.fill { enabled := false, cls := .beforeTurn, first := 0, last := 0 }
          hits := Four.fill false, frames := [], pool := [], stack := [], deferred := none,
          position := .opening 0 }
      exec c s = .next (
        if s.csq.runState ≠ .unhomed ∧ s.csq.runState ≠ .disarmed ∧ s.csq.runState ≠ .armed then
          refused c .state s
        else if s.volume.isSome then refused c .state s
        else if previewing s then refused c .busy s
        else if ¬ (1 ≤ mark.length ∧ mark.length ≤ 40 ∧ (∀ b ∈ mark, 0x20 ≤ b.toNat ∧ b.toNat ≤ 0x7E) ∧
            mark.head? ≠ some 0x20 ∧ mark.getLast? ≠ some 0x20) then refused c .range s
        else if n.toNat = 0 ∨ 2000 < n.toNat then refused c .range s
        else
          let answer (h : HandlingClass) :=
            taken c (num 4 side' ++ num 6 whole') s { s with volume := some (opened h) }
          if cls = 0 then answer .general else if cls = 1 then answer .fragile
          else if cls = 2 then answer .brittle else refused c .range s)) ∧
    (∀ s : State,
      exec .closeVolume s = .next (
        if s.csq.runState ≠ .unhomed ∧ s.csq.runState ≠ .disarmed ∧ s.csq.runState ≠ .armed then
          refused .closeVolume .busy s
        else if s.volume = none then refused .closeVolume .state s
        else if previewing s then refused .closeVolume .busy s
        else taken .closeVolume [] s { s with volume := none }))) ∧
  (∀ s : State,
      exec .queryVolume s = .next (taken .queryVolume (encVolume s.volume) s s) ∧
      exec .readDose s = .next (taken .readDose (encDose s.volume) s s)) ∧
  (encVolume none = zeros 53 ∧ encDose none = zeros 72 ∧
    ∀ v : Volume,
      let level := v.stack.length
      let place : List Byte :=
        match v.position with
        | .opening k => num 1 level ++ num 2 k ++ num 1 0
        | .insert f i => num 1 level ++ num 2 f ++ num 1 i
      let name (x : SideRef) : List Byte :=
        match x with
        | .leaf n .recto => num 1 0 ++ num 2 n ++ num 1 0
        | .leaf n .verso => num 1 0 ++ num 2 n ++ num 1 1
        | .insert f i => num 1 1 ++ num 2 f ++ num 1 i
      let l := leftSide v
      let r := rightSide v
      encPosition v = place ∧
      encVolume (some v) =
        bit true ++ (1 :: (num 1 v.shelfMark.length ++ v.shelfMark)) ++ (1 :: num 4 v.job) ++
        (1 :: num 2 v.leafCount) ++
        (1 :: num 1 (match v.handling with
          | .general => 0
          | .fragile => 1
          | .brittle => 2)) ++
        (1 :: num 4 v.sideCeiling) ++ (1 :: num 6 v.volumeCeiling) ++ (1 :: num 6 v.accumulator) ++
        (1 :: num 4 v.turnsCompleted) ++ (1 :: (place ++ num 2 (if level = 0 then 0 else underlying v))) ++
        (1 :: num 1 v.spans.length) ++ (1 :: num 1 v.frames.length) ++ (1 :: num 2 v.pool.length) ++
        (1 :: bit v.deferred.isSome) ∧
      encDose (some v) =
        bit true ++ (1 :: num 4 v.sideCeiling) ++ (1 :: num 6 v.volumeCeiling) ++ (1 :: num 6 v.accumulator) ++
        (1 :: num 6 (v.volumeCeiling - v.accumulator)) ++ (1 :: num 4 v.peak) ++ (1 :: num 4 v.fired) ++
        (1 :: num 4 v.withheld) ++ (1 :: name l) ++ (1 :: name r) ++ (1 :: num 4 (doseAt v l)) ++
        (1 :: num 4 (v.sideCeiling - doseAt v l)) ++ (1 :: num 4 (doseAt v r)) ++
        (1 :: num 4 (v.sideCeiling - doseAt v r)))

/-- DEFINE SPAN with a volume open: its checks in order, and the span placed by its first leaf. DELETE SPAN: the
span with that first leaf removed, RANGE where there is none. QUERY SPAN: the span of an index in list order (R8,
R9). MARK LEAF with a volume open: its checks in order, and the override, the cleared TURN_FAULTED and the sides'
capture states it leaves, every other field of the leaf kept; its reply and QUERY LEAF's carry the leaf record (R14,
R15). A side's label: BOARD 0 on a board; under the one span that covers the leaf the span's style and, at distance
j from its first leaf, the number start + 2j on a recto and start + 2j + 1 on a verso of an ARABIC or ROMAN span,
and start + j of any other; UNNUMBERED 0 under none (R10). A leaf record's bytes: a side without a record, and the
last record number of a side without one, keep their places (R15; log 15). -/
def Obligations.SpanAndLeafRequests : Prop :=
  (∀ (s : State) (v : Volume), s.volume = some v →
      (∀ (first count : BitVec 16) (style : Byte) (start : BitVec 16),
        let c : Instr := .defineSpan first count style start
        let last (st : SpanStyle) : Nat :=
          if st = .arabic ∨ st = .roman then start.toNat + 2 * (count.toNat - 1) + 1
          else start.toNat + count.toNat - 1
        let covered (p : Span) : Bool :=
          decide (first.toNat < p.first + p.count) && decide (p.first < first.toNat + count.toNat)
        let styles : List SpanStyle := [.arabic, .roman, .folio, .plate, .unnumbered]
        exec c s = .next (
          match styles[style.toNat]? with
          | none => refused c .range s
          | some st =>
            if count.toNat = 0 then refused c .range s
            else if first.toNat = 0 ∨ v.leafCount < first.toNat + count.toNat - 1 then refused c .range s
            else if 65535 < last st then refused c .range s
            else if v.spans.any covered then refused c .range s
            else if 32 ≤ v.spans.length then refused c .full s
            else
              let p : Span := { first := first.toNat, count := count.toNat, style := st
                                start := start.toNat }
              taken c [] s { s with volume := some { v with
                spans := v.spans.takeWhile (fun q => decide (q.first ≤ p.first)) ++
                  p :: v.spans.dropWhile (fun q => decide (q.first ≤ p.first)) } })) ∧
      (∀ first : BitVec 16, exec (.deleteSpan first) s = .next (
        if ∃ p ∈ v.spans, p.first = first.toNat then
          taken (.deleteSpan first) [] s
            { s with volume := some { v with spans := v.spans.filter (·.first != first.toNat) } }
        else refused (.deleteSpan first) .range s)) ∧
      (∀ index : Byte, exec (.querySpan index) s = .next (
        match v.spans[index.toNat]? with
        | some p => taken (.querySpan index)
            (num 2 p.first ++ num 2 p.count ++
              num 1 (match p.style with
                | .arabic => 0
                | .roman => 1
                | .folio => 2
                | .plate => 3
                | .unnumbered => 4) ++ num 2 p.start) s s
        | none => refused (.querySpan index) .range s))) ∧
  (∀ (s : State) (v : Volume), s.volume = some v →
      (∀ (leaf : BitVec 16) (override recto verso : Byte),
        let c : Instr := .markLeaf leaf override recto verso
        let act (b : Byte) (r : SideRecord) : SideRecord :=
          if b = 1 then { r with capture := .skipped } else if b = 2 then { r with capture := .none } else r
        let mark (l : LeafRecord) : LeafRecord :=
          { l with override := if override = 1 then .auto else if override = 2 then .hand else l.override
                   turnFaulted := false, recto := l.recto.map (act recto), verso := l.verso.map (act verso) }
        exec c s = .next (
          match v.leaves[leaf.toNat]? with
          | none => refused c .range s
          | some l =>
            if 2 < override.toNat ∨ 2 < recto.toNat ∨ 2 < verso.toNat then refused c .range s
            else if leaf = 0 ∧ recto ≠ 0 then refused c .range s
            else if leaf.toNat = v.leafCount + 1 ∧ verso ≠ 0 then refused c .range s
            else taken c (encLeaf v leaf.toNat (mark l)) s
              { s with volume := some { v with leaves := v.leaves.set leaf.toNat (mark l) } })) ∧
      (∀ leaf : BitVec 16, exec (.queryLeaf leaf) s = .next (
        match v.leaves[leaf.toNat]? with
        | none => refused (.queryLeaf leaf) .range s
        | some l => taken (.queryLeaf leaf) (encLeaf v leaf.toNat l) s s))) ∧
  (∀ (v : Volume) (n : Nat),
      let board := n = 0 ∨ n = v.leafCount + 1
      let covers (p : Span) : Prop := p.first ≤ n ∧ n < p.first + p.count
      (∀ face, board → labelOf v n face = { style := .board, number := 0 }) ∧
      (∀ face, ¬ board → (∀ p ∈ v.spans, ¬ covers p) →
        labelOf v n face = { style := .unnumbered, number := 0 }) ∧
      (∀ face p, ¬ board → p ∈ v.spans → covers p → (∀ q ∈ v.spans, covers q → q = p) →
        let j := n - p.first
        let pages := p.start + 2 * j + (match face with
          | .recto => 0
          | .verso => 1)
        labelOf v n face =
          match p.style with
          | .arabic => { style := .arabic, number := pages }
          | .roman => { style := .roman, number := pages }
          | .folio => { style := .folio, number := p.start + j }
          | .plate => { style := .plate, number := p.start + j }
          | .unnumbered => { style := .unnumbered, number := p.start + j }) ∧
      (∀ l : LeafRecord,
        let side (face : Side) (r : Option SideRecord) : List Byte :=
          match r with
          | none => zeros 16
          | some r => 1 :: (num 1 (match (labelOf v n face).style with
              | .arabic => 0
              | .roman => 1
              | .folio => 2
              | .plate => 3
              | .unnumbered => 4
              | .board => 5) ++ num 2 (labelOf v n face).number ++
            (num 1 (match r.capture with
              | .none => 0
              | .captured => 1
              | .flagged => 2
              | .withheld => 3
              | .skipped => 4) ++ num 1 r.shots ++ num 1 r.retakes ++ num 4 r.dose ++
            (match r.lastRecord with
              | some k => 1 :: num 4 k
              | none => zeros 5)))
        encLeaf v n l = num 2 n ++ num 1 (match l.override with
            | .auto => 0
            | .hand => 1) ++ bit l.handTurned ++ bit l.turnFaulted ++ bit l.hasInserts ++
          side .recto l.recto ++ side .verso l.verso))

/-- SET MARK and CLEAR MARK with a volume open: BUSY in RUNNING, RANGE for a mark number above 3, a class without a
code or leaves out of order or range, and else the one mark written over or cleared. QUERY MARKS: the four marks in
order, STATE with no volume open (R18). -/
def Obligations.StopMarkRequests : Prop :=
  (∀ (s : State) (v : Volume), s.volume = some v →
    let fields (m : Mark) : List Byte :=
      bit m.enabled ++ num 1 (match m.cls with
        | .beforeTurn => 0
        | .afterCapture => 1) ++ num 2 m.first ++ num 2 m.last
    (∀ (mark enabled cls : Byte) (first last : BitVec 16),
      let c : Instr := .setMark mark enabled cls first last
      let classes : List MarkClass := [.beforeTurn, .afterCapture]
      exec c s = .next (
        if s.csq.runState = .running then refused c .busy s
        else
          match (List.finRange 4)[mark.toNat]?, classes[cls.toNat]? with
          | some n, some k =>
            if first ≤ last ∧ last.toNat ≤ v.leafCount + 1 then
              let m : Mark :=
                { enabled := enabled != 0, cls := k, first := first.toNat, last := last.toNat }
              taken c [] s { s with volume := some { v with marks := v.marks.set n m } }
            else refused c .range s
          | _, _ => refused c .range s)) ∧
    (∀ mark : Byte, exec (.clearMark mark) s = .next (
      if s.csq.runState = .running then refused (.clearMark mark) .busy s
      else
        match (List.finRange 4)[mark.toNat]? with
        | some n => taken (.clearMark mark) [] s { s with volume := some { v with
            marks := v.marks.set n { enabled := false, cls := .beforeTurn, first := 0, last := 0 } } }
        | none => refused (.clearMark mark) .range s)) ∧
    exec .queryMarks s = .next (taken .queryMarks
      (fields v.marks.c0 ++ fields v.marks.c1 ++ fields v.marks.c2 ++ fields v.marks.c3) s s)) ∧
  (∀ s : State, s.volume = none → exec .queryMarks s = .next (refused .queryMarks .state s))

/-- SET POSITION with a volume open: its checks in order, and the position at the opening named, a boundary of
preview periods. SET CEILINGS with a volume open: BUSY while a flash is lit, and else, at a boundary of preview
periods, each ceiling kept at a field of 0 and otherwise set, but not below the peak side accumulator or the volume
accumulator; the reply carries the ceilings in force and a raised mark for each (R17, R89, R104). -/
def Obligations.PositionAndCeilings : Prop :=
  ∀ (s : State) (v : Volume), s.volume = some v →
    (∀ opening : BitVec 16, exec (.setPosition opening) s = .next (
      let c : Instr := .setPosition opening
      if s.csq.runState ≠ .disarmed ∧ s.csq.runState ≠ .armed then refused c .state s
      else if v.stack ≠ [] then refused c .state s
      else if v.leafCount < opening.toNat then refused c .range s
      else taken c [] s (atBoundary
        (fun t => { t with volume := t.volume.map fun w => { w with position := .opening opening.toNat } }) s))) ∧
    (∀ (side : BitVec 32) (whole : BitVec 48),
      let c : Instr := .setCeilings side whole
      let change (t : State) : State := { t with volume := t.volume.map fun w => { w with
        sideCeiling := if side = 0 then w.sideCeiling
          else if side.toNat < w.peak then w.peak else side.toNat
        volumeCeiling := if whole = 0 then w.volumeCeiling
          else if whole.toNat < w.accumulator then w.accumulator else whole.toNat } }
      ((∃ f, s.light = .flash f) → exec c s = .next (refused c .busy s)) ∧
      ((∀ f, s.light ≠ .flash f) → ∃ w, (atBoundary change s).volume = some w ∧
        exec c s = .next (taken c
          (num 4 w.sideCeiling ++ num 6 w.volumeCeiling ++
            bit (decide (side ≠ 0 ∧ side.toNat < w.peak)) ++
            bit (decide (whole ≠ 0 ∧ whole.toNat < w.accumulator))) s (atBoundary change s))))

/-- ENTER INSERT with a volume open: its checks in order; at level 4 the entry is deferred and nothing else changes:
a preview period goes on, the model's choice (log 42); below it, at a boundary of preview periods, the position is
pushed, a frame with its parent, depth and pool records is created, the position becomes its side 0, at level 0 the
leaf that carries the found-at side gains HAS_INSERTS, and an ENTER record is handed over, which names the side
found at as one in play, the model's choice (R20, R21, R24 to R26, R29; log 16). ADVANCE with a volume open: its
checks in order, and the next side of the current insert, at a boundary of preview periods. LEAVE INSERT: its checks
in order; at a boundary of preview periods the saved position is restored and a LEAVE record of the frame left is
handed over, and a deferred entry is then carried out against the restored position with its own ENTER record (R27
to R29, R89). -/
def Obligations.InsertRequests : Prop :=
  (∀ (s : State) (v : Volume) (half sides : Byte), s.volume = some v →
      let c : Instr := .enterInsert half sides
      let n := sides.toNat
      let frame : InsertFrame :=
        { ordinal := v.frames.length + 1
          parent :=
            (match v.position with
              | .opening k => .opening k (if half = 1 then .right else .left)
              | .insert f i => .insert f i)
          depth := v.stack.length + 1, sides := n, firstPool := v.pool.length }
      let enter (w : Volume) : Volume := { w with
        stack := w.position :: w.stack, frames := w.frames ++ [frame]
        pool := w.pool ++ List.replicate n
          { capture := .none, shots := 0, retakes := 0, dose := 0, lastRecord := none }
        position := .insert frame.ordinal 0
        leaves :=
          (match w.position with
            | .opening k => w.leaves.modify (if half = 1 then k + 1 else k) fun l => { l with hasInserts := true }
            | .insert _ _ => w.leaves) }
      let found (w : Volume) : SideId :=
        match frame.parent with
        | .opening k .left => .leaf false k .verso (labelOf w k .verso)
        | .opening k .right => .leaf false (k + 1) .recto (labelOf w (k + 1) .recto)
        | .insert _ _ => .absent
      let change (t : State) : State :=
        match t.volume with
        | some w =>
          handOver 0 (.detour { enter := true, frame := frame, deferred := false, parentSide := found w
                                shelfMark := w.shelfMark }) { t with volume := some (enter w) }
        | none => t
      exec c s = .next (
        if s.csq.runState ≠ .armed ∧ s.csq.runState ≠ .held then refused c .state s
        else if s.csq.runState = .held ∧
            (s.csq.resumePoint = some .readyCheck ∨ s.csq.resumePoint = some .afterShot) then
          refused c .busy s
        else if n < 1 ∨ 32 < n then refused c .range s
        else if v.stack = [] ∧ half ≠ 0 ∧ half ≠ 1 then refused c .range s
        else if s.rq.holding.isSome then refused c .full s
        else if 64 ≤ v.frames.length ∨ 512 < v.pool.length + n then refused c .full s
        else if v.stack.length < 4 then
          let t := atBoundary change s
          taken c (num 1 frame.ordinal ++ num 2 frame.firstPool ++
            num 1 (v.stack.length + 1) ++ num 2 frame.ordinal ++ num 1 0) s t
        else if v.deferred.isSome then refused c .full s
        else answered c .deferred [] s { s with volume := some { v with deferred := some n } })) ∧
  (∀ (s : State) (v : Volume), s.volume = some v →
      let free := s.csq.runState = .armed ∨ s.csq.runState = .held
      let suspended := s.csq.runState = .held ∧
        (s.csq.resumePoint = some .readyCheck ∨ s.csq.resumePoint = some .afterShot)
      (exec .advance s = .next (
        if ¬ free then refused .advance .state s
        else if v.stack = [] then refused .advance .state s
        else if suspended then refused .advance .busy s
        else
          match v.position with
          | .opening _ => refused .advance .range s
          | .insert f i =>
            match v.frames.find? (·.ordinal == f) with
            | none => refused .advance .range s
            | some fr =>
              if i + 1 < fr.sides then
                taken .advance (num 1 v.stack.length ++ num 2 f ++ num 1 (i + 1)) s (atBoundary
                  (fun t => { t with volume := t.volume.map fun w => { w with position := .insert f (i + 1) } }) s)
              else refused .advance .range s)) ∧
      (let pop (t : State) : State :=
          { t with volume := t.volume.map fun w =>
              match w.stack with
              | p :: rest => { w with stack := rest, position := p }
              | [] => w }
        let record (enter deferred : Bool) (f : InsertFrame) (t : State) : State :=
          match t.volume with
          | some w =>
            let found : SideId :=
              match f.parent with
              | .opening k .left => .leaf false k .verso (labelOf w k .verso)
              | .opening k .right => .leaf false (k + 1) .recto (labelOf w (k + 1) .recto)
              | .insert _ _ => .absent
            handOver 0 (.detour { enter := enter, frame := f, deferred := deferred
                                  shelfMark := w.shelfMark, parentSide := found }) t
          | none => t
        let again (n : Nat) (t : State) : State :=
          match t.volume with
          | some w =>
            let parent : Parent :=
              match w.position with
              | .opening k => .opening k .left
              | .insert f i => .insert f i
            let frame : InsertFrame :=
              { ordinal := w.frames.length + 1, parent := parent, depth := w.stack.length + 1, sides := n
                firstPool := w.pool.length }
            record true true frame { t with volume := some { w with
              stack := w.position :: w.stack, frames := w.frames ++ [frame]
              pool := w.pool ++ List.replicate n
                { capture := .none, shots := 0, retakes := 0, dose := 0, lastRecord := none }
              position := .insert frame.ordinal 0, deferred := none } }
          | none => t
        let leave (t : State) : State :=
          let t1 :=
            match v.position with
            | .opening _ => pop t
            | .insert f _ =>
              match v.frames.find? (·.ordinal == f) with
              | some fr => record false false fr (pop t)
              | none => pop t
          match v.deferred with
          | some n => again n t1
          | none => t1
        exec .leaveInsert s = .next (
          if ¬ free then refused .leaveInsert .state s
          else if v.stack = [] then refused .leaveInsert .state s
          else if suspended then refused .leaveInsert .busy s
          else if s.rq.holding.isSome then refused .leaveInsert .full s
          else if v.deferred.isSome ∧ s.settings.capacity ≤ s.rq.fifo.length then
            refused .leaveInsert .full s
          else taken .leaveInsert (((atBoundary leave s).volume.map encPosition).getD []) s
            (atBoundary leave s))))

/-- QUERY INSERT: STATE with no volume, RANGE for a frame ordinal or an insert side index that is not held, and else
the frame's fields and the insert side's, as they stand, with the parent laid out as in the DETOUR record (R29, R34,
R153). That the label of a side found at is derived as the reply is formed (log 39), that this side is named as one
in play (log 16), and that an absent record number keeps its place (log 15) are the model's choices. -/
def Obligations.InsertsAreQueried : Prop :=
  ∀ (frame side : Byte) (s : State), DetourLaw s →
    let c : Instr := .queryInsert frame side
    exec c s = .next (
      match s.volume with
      | none => refused c .state s
      | some v =>
        if h : 1 ≤ frame.toNat ∧ frame.toNat ≤ v.frames.length then
          let f := v.frames[frame.toNat - 1]
          if side.toNat < f.sides then
            match v.pool[f.firstPool + side.toNat]? with
            | some r =>
              let found (n face : Nat) (l : Label) : List Byte :=
                num 1 1 ++ num 2 n ++ num 1 face ++
                  num 1 (match l.style with
                    | .arabic => 0
                    | .roman => 1
                    | .folio => 2
                    | .plate => 3
                    | .unnumbered => 4
                    | .board => 5) ++ num 2 l.number
              taken c
                (num 1 f.ordinal ++
                  (match f.parent with
                    | .opening k .left => num 2 k ++ num 1 0 ++ found k 1 (labelOf v k .verso)
                    | .opening k .right => num 2 k ++ num 1 1 ++ found (k + 1) 0 (labelOf v (k + 1) .recto)
                    | .insert g i => num 2 g ++ num 1 i ++ zeros 7) ++
                  num 1 f.depth ++ num 1 f.sides ++ num 2 f.firstPool ++
                  (num 1 (match r.capture with
                    | .none => 0
                    | .captured => 1
                    | .flagged => 2
                    | .withheld => 3
                    | .skipped => 4) ++ num 1 r.shots ++ num 1 r.retakes ++ num 4 r.dose ++
                    (match r.lastRecord with
                      | some n => 1#8 :: num 4 n
                      | none => 0#8 :: zeros 4))) s s
            | none => refused c .range s
          else refused c .range s
        else refused c .range s)

/-! ### Requests of the cradle sequencer, the guard and the settings (chapters 3 to 5) -/

/-- The setting requests: refused BUSY during a save of settings; otherwise each value is taken at the nearer limit
of its range, replies as taken, and changes that setting alone (R35, R61, R72, R91, R121, R149, R152; SET AUX SOURCE
checks the save before its range, log 20). SET DEBOUNCE also has the next samples fall one new period after the last
ones (R35; at once where more than that has passed, the model's choice, log 10), and SET STALE INTERVAL at 0 stops a
running stale timer (R133). SET CALIBRATION: its checks in order, and the channel's record with each number at the
nearer limit of its range. QUERY CALIBRATION: the channel's working copy, RANGE for a channel above 7. READ LIGHTS,
QUERY TURN TIMING and QUERY CAMERA TIMING report what stands and change nothing (R61, R79, R91, R121). The contents
of the calibration, timing and light reports in bytes. READ LIGHTS gives lit, drive and lamp fault of one channel
after another (log 41), a lamp fault as 1 for asserted and 0 for not asserted (log 40), and keeps the places of what
only FLASH or PREVIEW has (log 15). -/
def Obligations.SettingAndCalibrationRequests : Prop :=
  (∀ s : State,
      let clamped (lo hi n : Nat) : Nat := if n < lo then lo else if hi < n then hi else n
      let busy := s.sto.save.isSome
      (∀ period : Byte, exec (.setDebounce period) s = .next (
        let d := clamped 1 50 period.toNat
        if busy then refused (.setDebounce period) .busy s
        else taken (.setDebounce period) (num 1 d) s { s with
          settings := { s.settings with debounce := d }
          sampling := { s.sampling with timer :=
            { figure := d * 1000
              left := d * 1000 - (s.sampling.timer.figure - s.sampling.timer.left) } } })) ∧
      (∀ t : TimingFields, exec (.setTurnTiming t) s = .next (
        let timing : TurnTiming :=
          { platenUp := clamped 10 5000 t.platenUp.toNat, lift := clamped 10 5000 t.lift.toNat
            grip := clamped 10 5000 t.grip.toNat, carry := clamped 10 5000 t.carry.toNat
            release := clamped 10 5000 t.release.toNat, returning := clamped 10 5000 t.returning.toNat
            platenDown := clamped 10 5000 t.platenDown.toNat, interval := clamped 50 5000 t.interval.toNat
            multiplier := clamped 2 20 t.multiplier.toNat }
        if busy then refused (.setTurnTiming t) .busy s
        else taken (.setTurnTiming t) (encTiming timing) s
          { s with settings := { s.settings with timing := timing } })) ∧
      (∀ enable : Byte, exec (.setGuardEnable enable) s = .next (
        if busy then refused (.setGuardEnable enable) .busy s
        else taken (.setGuardEnable enable) [] s
          { s with settings := { s.settings with guardEnable := decide (enable ≠ 0) } })) ∧
      (∀ seconds : BitVec 16, exec (.setPreviewLimit seconds) s = .next (
        let d := clamped 1 600 seconds.toNat
        if busy then refused (.setPreviewLimit seconds) .busy s
        else taken (.setPreviewLimit seconds) (num 2 d) s
          { s with settings := { s.settings with previewLimit := d } })) ∧
      (∀ wait grace : BitVec 16, exec (.setCameraTiming wait grace) s = .next (
        let w := clamped 10 10000 wait.toNat
        let g := clamped 0 500 grace.toNat
        if busy then refused (.setCameraTiming wait grace) .busy s
        else taken (.setCameraTiming wait grace) (num 2 w ++ num 2 g) s
          { s with settings := { s.settings with readyWait := w, frameGrace := g } })) ∧
      (∀ seconds : Byte, exec (.setStaleInterval seconds) s = .next (
        let d := clamped 0 60 seconds.toNat
        if busy then refused (.setStaleInterval seconds) .busy s
        else taken (.setStaleInterval seconds) (num 1 d) s
          { s with settings := { s.settings with staleInterval := d }
                   rq := { s.rq with staleTimer := if d = 0 then none else s.rq.staleTimer } })) ∧
      (∀ output source : Byte, exec (.setAuxSource output source) s = .next (
        let sources : List AuxSource := [.manual, .running, .attention, .guard]
        if busy then refused (.setAuxSource output source) .busy s
        else
          match (List.finRange 4)[output.toNat]?, sources[source.toNat]? with
          | some n, some x => taken (.setAuxSource output source) [] s
              { s with settings := { s.settings with auxSources := s.settings.auxSources.set n x } }
          | _, _ => refused (.setAuxSource output source) .range s))) ∧
  (∀ s : State,
      (∀ (channel : Byte) (illuminance : BitVec 32) (weight : BitVec 16) (coverage : Byte)
          (limit : BitVec 16) (enabled : Byte),
        let c : Instr := .setCalibration channel illuminance weight coverage limit enabled
        exec c s = .next (
          if s.sto.save.isSome then refused c .busy s
          else if s.csq.runState ≠ .unhomed ∧ s.csq.runState ≠ .disarmed then refused c .busy s
          else if previewing s then refused c .busy s
          else if 7 < channel.toNat ∨ 2 < coverage.toNat ∨ 1 < enabled.toNat then refused c .range s
          else
            let r : Calibration :=
              { illuminance := if illuminance.toNat = 0 then 1
                  else if 100000 < illuminance.toNat then 100000 else illuminance.toNat
                weight := if 8000 < weight.toNat then 8000 else weight.toNat
                coverage := if coverage = 0 then .left else if coverage = 1 then .right else .both
                flashLimit := if limit.toNat = 0 then 1 else if 2000 < limit.toNat then 2000 else limit.toNat
                enabled := decide (enabled = 1) }
            taken c (encCalibration r) s { s with settings := { s.settings with
              calibration := s.settings.calibration.set (Fin.ofNat 8 channel.toNat) r } })) ∧
      (∀ channel : Byte, exec (.queryCalibration channel) s = .next (
        if 7 < channel.toNat then refused (.queryCalibration channel) .range s
        else taken (.queryCalibration channel)
          (encCalibration (s.settings.calibration.get (Fin.ofNat 8 channel.toNat))) s s)) ∧
      exec .readLights s = .next (taken .readLights (encLights s) s s) ∧
      exec .queryTurnTiming s = .next (taken .queryTurnTiming (encTiming s.settings.timing) s s) ∧
      exec .queryCameraTiming s = .next (taken .queryCameraTiming
        (num 2 s.settings.readyWait ++ num 2 s.settings.frameGrace) s s)) ∧
  ((∀ c : Calibration, encCalibration c = num 4 c.illuminance ++ num 2 c.weight ++
      num 1 (match c.coverage with
        | .left => 0
        | .right => 1
        | .both => 2) ++ num 2 c.flashLimit ++ bit c.enabled) ∧
    (∀ t : TurnTiming, encTiming t = num 2 t.platenUp ++ num 2 t.lift ++ num 2 t.grip ++ num 2 t.carry ++
      num 2 t.release ++ num 2 t.returning ++ num 2 t.platenDown ++ num 2 t.interval ++ num 1 t.multiplier) ∧
    ∀ s : State,
      let channels (lit : Fin 8 → Bool) (drive : Fin 8 → Nat) : List Byte :=
        (List.finRange 8).flatMap fun n =>
          bit (lit n) ++ num 2 (if lit n then drive n else 0) ++ bit (s.lmn.lamps.get n == some true)
      encLights s =
        (match s.light with
          | .dark => num 1 0 ++ channels (fun _ => false) (fun _ => 0) ++ zeros 10 ++ zeros 19
          | .flash f => num 1 1 ++ channels f.lit.get f.drives.get ++
              (1 :: num 4 f.timer.figure) ++ (1 :: num 4 (f.timer.figure - f.timer.left)) ++ zeros 19
          | .preview p => num 1 2 ++ channels p.lit.get p.drives.get ++ zeros 10 ++
              (1 :: num 4 (p.limit - p.limitLeft)) ++
              (match p.cut with
                | some c => 1 :: num 6 c
                | none => zeros 7) ++
              (1 :: num 4 p.timer.left) ++ (1 :: num 1 (if p.cutExpiry then 0 else 1))) ++
        num 2 s.settings.previewLimit)

/-- HOME: its checks in order; a taken one ends preview, turns every output off but the arm drive to park, and runs
RETURN; with park confirmed it runs PLATEN_DOWN at once, and with the platen down confirmed as well homing is over:
DISARMED with the arm certain. That the arm drive runs towards park is the model's reading (log 14). ARM: its checks
in order, and ARMED (R38 to R41). -/
def Obligations.HomeAndArm : Prop :=
  ∀ s : State, RunLaw s →
    let clear := s.settings.guardEnable = false ∨ s.lmn.curtain = some false
    let u := endPreview s
    let start (ms : Nat) : Option Timer := some { figure := ms * 1000, left := ms * 1000 }
    let homing (c : Csq) : State := { u with csq := { c with runState := .homing } }
    exec .home s = .next (
      if s.csq.runState = .guarded then refused .home .guard s
      else if s.csq.runState ≠ .unhomed ∧ s.csq.runState ≠ .disarmed then refused .home .state s
      else if ¬ clear then refused .home .guard s
      else if s.sto.save.isSome then refused .home .busy s
      else if s.lmn.park ≠ some true then
        taken .home [] s (homing { s.csq with
          phase := .returning, phaseTimer := start s.settings.timing.returning
          actuators := ⟨false, false, false, false, true, .toPark⟩ })
      else if s.lmn.platenDown ≠ some true then
        taken .home [] s (homing { s.csq with
          phase := .platenDown, phaseTimer := start s.settings.timing.platenDown
          actuators := ⟨false, true, false, false, false, .rest⟩ })
      else
        taken .home [] s { u with csq := { s.csq with
          runState := .disarmed, phase := .none, armCertain := true, phaseTimer := none
          settleTimer := none, settleLimit := none
          actuators := ⟨false, false, false, false, false, .rest⟩ } }) ∧
    exec .arm s = .next (
      if s.csq.runState = .guarded then refused .arm .guard s
      else if s.csq.runState ≠ .disarmed then refused .arm .state s
      else if s.volume = none then refused .arm .state s
      else if s.sto.save.isSome then refused .arm .busy s
      else taken .arm [] s { s with csq := { s.csq with runState := .armed } })

/-- DISARM: BUSY in RUNNING and HOMING, GUARD in GUARDED, STATE in UNHOMED and DISARMED; taken in ARMED, HELD and
FAULTED it makes everything dark with preview's dose posted, abandons a pass, turns every output off, clears what
the run left, and goes to DISARMED, or from FAULTED with the arm not certain to UNHOMED; the step mode and the arm
certainty are kept (R42; the arm direction output at rest is the model's choice, log 14). RECOVER: its checks in
order; the position is set, every output goes off, the fault kind and the retry count are cleared, recording is
enabled again, and the arm certainty gives ARMED or UNHOMED (R60). SET STEP: the mode, RANGE for a value without one
(R64). -/
def Obligations.DisarmRecoverStep : Prop :=
  ∀ s : State,
    (exec .disarm s = .next (
      let kept := abandonPass { endPreview s with light := .dark }
      let dest : RunState :=
        if s.csq.runState = .faulted ∧ s.csq.armCertain = false then .unhomed else .disarmed
      let passed := setRunState dest kept
      if s.csq.runState = .running ∨ s.csq.runState = .homing then refused .disarm .busy s
      else if s.csq.runState = .guarded then refused .disarm .guard s
      else if s.csq.runState = .unhomed ∨ s.csq.runState = .disarmed then refused .disarm .state s
      else taken .disarm [] s { passed with csq := { s.csq with
        runState := dest, scope := none, phase := .none, faultKind := none, retries := 0
        reasons := ⟨false, false, false, false, false⟩, resumePoint := none, setAside := none
        haltPending := false, passOnce := false, unsettled := false, awaiting := none, turn := none
        phaseTimer := none, settleTimer := none, settleLimit := none
        actuators := ⟨false, false, false, false, false, .rest⟩ } })) ∧
    (∀ opening : BitVec 16, exec (.recover opening) s = .next (
      let c : Instr := .recover opening
      let dest : RunState := if s.csq.armCertain then .armed else .unhomed
      let volume := s.volume.map fun v => { v with position := .opening opening.toNat }
      if s.csq.runState ≠ .faulted then refused c .state s
      else if s.volume.any (fun v => !v.stack.isEmpty) then refused c .state s
      else if s.volume.any (fun v => decide (v.leafCount < opening.toNat)) then refused c .range s
      else taken c ((match volume with
            | some v => 1#8 :: encPosition v
            | none => 0#8 :: zeros 4) ++ num 1 (if s.csq.armCertain then 3 else 0)) s
        { s with
          volume := volume
          cth := { s.cth with recording := true }
          csq := { s.csq with runState := dest, faultKind := none, retries := 0
                              actuators := ⟨false, false, false, false, false, .rest⟩ } })) ∧
    (∀ mode : Byte, exec (.setStep mode) s = .next (
      let modes : List StepMode := [.off, .shot, .opening, .turn]
      match modes[mode.toNat]? with
      | some m => taken (.setStep mode) [] s { s with csq := { s.csq with stepMode := m } }
      | none => refused (.setStep mode) .range s))

/-- The requests that begin a run, their checks in order: RUN, which begins with a pass, or with SKIP_FIRST with its
BEFORE_TURN evaluation; TURN, whose turn waits for the holding slot; CAPTURE, which sets aside what a held run stood
with; PLATEN UP and PLATEN DOWN, which run their phase; each ends preview first and enters RUNNING in its scope
(R38, R43, R45 to R47, R68, R138). -/
def Obligations.RunsBegin : Prop :=
  ∀ s : State,
    let clear := s.settings.guardEnable = false ∨ s.lmn.curtain = some false
    let plan := s.spu.active.isSome ∨ s.spu.staged.isSome
    let u := endPreview s
    let running (scope : Scope) (t : State) : State :=
      let r := setRunState .running t
      { r with csq := { r.csq with scope := some scope } }
    let moves (c : Instr) (t : State) : State :=
      if s.csq.runState = .guarded then refused c .guard s
      else if s.csq.runState ≠ .armed then refused c .state s
      else if ¬ clear then refused c .guard s
      else taken c [] s t
    let r := running .platenMove u
    let opened : State := { r with
      cth := { r.cth with tallies := { r.cth.tallies with restarts := 0, settleOpen := true } } }
    let none' := Reasons.empty
    (∀ flags : Byte, exec (.run flags) s = .next (
      let c : Instr := .run flags
      if s.csq.runState = .guarded then refused c .guard s
      else if s.csq.runState ≠ .armed then refused c .state s
      else if ¬ clear then refused c .guard s
      else
        match s.volume with
        | none => refused c .state s
        | some v =>
          if v.stack ≠ [] then refused c .state s
          else if ¬ plan then refused c .state s
          else if flags.getLsbD 0 = true ∧ underlying v = v.leafCount then refused c .range s
          else taken c [] s
            (if flags.getLsbD 0 then beforeTurn (running .continuous u) else startPass (running .continuous u)))) ∧
    (∀ direction : Byte, exec (.turn direction) s = .next (
      let c : Instr := .turn direction
      if s.csq.runState = .guarded then refused c .guard s
      else if s.csq.runState ≠ .armed then refused c .state s
      else if ¬ clear then refused c .guard s
      else
        match s.volume with
        | none => refused c .state s
        | some v =>
          if v.stack ≠ [] then refused c .state s
          else
            let go (d : Direction) : State :=
              let r := running .oneTurn u
              taken c [] s { r with csq := { r.csq with phase := .none, awaiting := some (.turn d) } }
            if direction = 0 then (if underlying v < v.leafCount then go .forward else refused c .range s)
            else if direction = 1 then (if 1 ≤ underlying v then go .backward else refused c .range s)
            else refused c .range s)) ∧
    exec .capture s = .next (
      let aside : Csq :=
        if s.csq.runState = .held then
          match s.csq.resumePoint with
          | some p => { s.csq with setAside := some { reasons := s.csq.reasons, point := p }
                                   reasons := none', resumePoint := none }
          | none => s.csq
        else s.csq
      if s.csq.runState = .guarded then refused .capture .guard s
      else if s.csq.runState ≠ .armed ∧ s.csq.runState ≠ .held then refused .capture .state s
      else if s.csq.runState = .held ∧
          (s.csq.resumePoint = some .readyCheck ∨ s.csq.resumePoint = some .afterShot) then
        refused .capture .busy s
      else if ¬ clear then refused .capture .guard s
      else if s.volume = none then refused .capture .state s
      else if ¬ plan then refused .capture .state s
      else taken .capture [] s (startPass (running .oneCapture { u with csq := aside }))) ∧
    exec .platenUp s = .next (moves .platenUp (enterPlatenUp .single r)) ∧
    exec .platenDown s = .next (moves .platenDown (enterPlatenDown opened))

/-- RESUME: its checks in order; in AWAIT_HAND it is the hand confirmation, which moves the position, marks the leaf
as turned by hand, and goes on to PLATEN_DOWN, or with the zone intruded and guard enable on to a guard trip with
nothing interrupted; in HELD it ends preview, empties the reasons, sets pass-once where PASS is given, and goes on
from its resume point; one without PASS keeps a pass-once that stands, the model's choice (R56, R67, R75; log 25). -/
def Obligations.RunsResume : Prop :=
  ∀ (flags : Byte) (s : State),
    let c : Instr := .resume flags
    let clear := s.settings.guardEnable = false ∨ s.lmn.curtain = some false
    let suspended := s.csq.resumePoint = some .readyCheck ∨ s.csq.resumePoint = some .afterShot
    let byHand : State :=
      match s.csq.turn with
      | none => s
      | some t =>
        let moved : State := { s with volume := s.volume.map fun v => { v with
          position := .opening (match t.direction with
            | .forward => underlying v + 1
            | .backward => underlying v - 1)
          leaves := v.leaves.modify t.leaf fun l => { l with handTurned := true } } }
        if clear then enterPlatenDown moved else trip false moved
    let r := setRunState .running (endPreview s)
    let on : State := { r with csq := { r.csq with
      reasons := Reasons.empty, resumePoint := none, passOnce := s.csq.passOnce || flags.getLsbD 0 } }
    let next : State :=
      match s.csq.resumePoint with
      | none => on
      | some .readyCheck => readyCheck on
      | some .afterShot => nextShot on
      | some .afterPass => beforeTurn on
      | some .beforeTurn => { on with csq := { on.csq with phase := .none, awaiting := some (.turn .forward) } }
      | some .afterSettle => startPass on
    handConfirm s = byHand ∧
    exec c s = .next (
      if s.csq.runState = .guarded then refused c .guard s
      else if s.csq.runState = .running ∧ s.csq.phase = .awaitHand then taken c [] s byHand
      else if s.csq.runState ≠ .held then refused c .state s
      else if ¬ clear then refused c .guard s
      else if 1 ≤ levelNow s ∧ ¬ suspended then refused c .state s
      else taken c [] s next)

/-- HALT: in RUNNING of CONTINUOUS scope it ends the run at once before a turn that waits (log 23 where nothing
waits any more), and otherwise sets halt-pending; in HELD it abandons a suspended pass and ends the run with preview
left on. ABORT stops the capture at hand (`CaptureIsStopped`): in HOMING every output goes off, the arm is not
certain and CSQ is UNHOMED; a turn in progress ends with result ABORTED, in FAULTED where the arm stands between its
places and in ARMED elsewhere; any other work ends in ARMED; in SETTLE, of a PLATEN DOWN too (log 29), the unsettled
mark is set. That the arm direction output is at rest where the vacuum keeps its state is the model's choice (log
14). Each is GUARD in GUARDED and STATE in the other run states (R69 to R71). -/
def Obligations.RunsHaltAndAbort : Prop :=
  ∀ s : State,
    let off : Actuators := ⟨false, false, false, false, false, .rest⟩
    let keep : Actuators := { off with vacuum := s.csq.actuators.vacuum }
    let still (t : State) : State := { t with csq := { t.csq with
      phaseTimer := none, settleTimer := none, settleLimit := none } }
    let stopped := stopCapture .aborted s
    let settling := decide (s.csq.phase = .settle)
    let between := decide (s.csq.phase ∈ [.grip, .carry, .reverseCarry, .release])
    let out (a : Actuators) (certain : Bool) : State := { stopped with csq := { stopped.csq with
      actuators := a, armCertain := certain, unsettled := stopped.csq.unsettled || settling } }
    exec .halt s = .next (
      if s.csq.runState = .guarded then refused .halt .guard s
      else if s.csq.runState = .running ∧ s.csq.scope = some .continuous then
        taken .halt [] s
          (if s.csq.awaiting = some (.turn .forward) ∨ s.csq.awaiting = some (.turn .backward) then endRun s
           else { s with csq := { s.csq with haltPending := true } })
      else if s.csq.runState = .held then taken .halt [] s (endRun (abandonPass s))
      else refused .halt .state s) ∧
    exec .abort s = .next (
      if s.csq.runState = .guarded then refused .abort .guard s
      else if s.csq.runState = .homing then
        taken .abort [] s { stopped with csq := { stopped.csq with
          runState := .unhomed, phase := .none, armCertain := false, actuators := off
          phaseTimer := none, settleTimer := none, settleLimit := none } }
      else if s.csq.runState ≠ .running ∧ s.csq.runState ≠ .held then refused .abort .state s
      else if s.csq.turn.isSome then
        taken .abort [] s
          (if between then faultMove .aborted (out keep false)
           else endRun (still (endTurn (.fault .aborted) false false (out off s.csq.armCertain))))
      else taken .abort [] s (endRun (still (closeSettleScope (out off s.csq.armCertain)))))

/-- READ GUARD is taken in every run state and replies OK with the latch, read-seen as it stands after, the zone,
the interrupted-motion flag and guard enable; a set latch sets read-seen, a clear one leaves it. Read-seen is
cleared by a re-intrusion that does not trip while the latch is set, by a trip, by a taken CLEAR GUARD and by a
reset (R76). -/
def Obligations.ReadSeen : Prop :=
  ∀ s : State,
    let seen := s.grd.readSeen || s.grd.latch
    (exec .readGuard s = .next (taken .readGuard
        (bit s.grd.latch ++ bit seen ++ bit (decide (s.lmn.curtain ≠ some false)) ++
          bit s.grd.interrupted ++ bit s.settings.guardEnable) s
        { s with grd := { s.grd with readSeen := seen } })) ∧
    (s.grd.latch = false → s.grd.readSeen = false →
      ∃ t, exec .readGuard s = .next t ∧ t.grd = s.grd) ∧
    (∃ t, exec .lightCurtainIntruded s = .next t ∧ (s.grd.latch = true → t.grd.readSeen = false)) ∧
    (tripsNow s = true → ∃ t, exec .lightCurtainIntruded s = .next t ∧ t.grd.readSeen = false) ∧
    (s.grd.latch = true → s.grd.readSeen = true → s.lmn.curtain = some false →
      ∃ t, exec .clearGuard s = .next t ∧ t.grd.readSeen = false) ∧
    (∀ straps : BitVec 2,
      (∃ t, exec (.powerOn straps) s = .next t ∧ t.grd.readSeen = false) ∧
      (∃ t, exec (.resetPin straps) s = .next t ∧ t.grd.readSeen = false) ∧
      (∃ t, exec (.supplyFall straps) s = .next t ∧ t.grd.readSeen = false) ∧
      (resetAll .request straps s).grd.readSeen = false)

/-- CLEAR GUARD is taken with the latch and read-seen set and the zone clear, and refused GUARD otherwise. A taken
one clears the latch, read-seen and the interrupted-motion flag, turns the vacuum off, clears the fault kind and the
retry count, and goes to UNHOMED where a motion was interrupted and else to DISARMED; its reply carries that run
state; the conditions, the history, the volume and the plans are kept. No trip can come in the two-step clear; a re-
intrusion before CLEAR GUARD has it refused, and one after it does not trip (R77). -/
def Obligations.GuardIsCleared : Prop :=
  ∀ s : State, RunLaw s →
    let dest : RunState := if s.grd.interrupted then .unhomed else .disarmed
    (exec .clearGuard s = .next (
      if s.grd.latch = true ∧ s.grd.readSeen = true ∧ s.lmn.curtain = some false then
        taken .clearGuard [if s.grd.interrupted then 0 else 2] s { s with
          grd := { latch := false, readSeen := false, interrupted := false }
          csq := { s.csq with runState := dest, faultKind := none, retries := 0
                              actuators := { s.csq.actuators with vacuum := false } } }
      else refused .clearGuard .guard s)) ∧
    (s.grd.latch = true → tripsNow s = false ∧
      ∃ t, exec .lightCurtainIntruded s = .next t ∧ t.grd.readSeen = false ∧
        exec .clearGuard t = .next (refused .clearGuard .guard t)) ∧
    (s.grd.latch = true → s.grd.readSeen = true → s.lmn.curtain = some false →
      ∃ t, exec .clearGuard s = .next t ∧
        ∃ u, exec .lightCurtainIntruded t = .next u ∧ u.grd.latch = false ∧ u.csq.runState = dest)

/-! ### Requests of the illumination controller and the shot plan unit (chapters 5 and 7) -/

/-- A change at a boundary of preview periods: with preview off, the change alone; with preview on, the period's
dose is posted for the time it lasted, the change is applied, and the next period lights what the boundary keeps of
the channels lit before, less those of LEFT coverage at level 1 to 4, timed by the smaller of its cut time and the
remaining limit; with nothing left to light preview ends, and at a cut of 0 it ends with DOSE_CEILING. Only a
confirmed lamp fault takes a channel out; every other boundary keeps them all (R84, R86, R87, R89, R90; that the
entry and the exit of a preview that a cut of 0 ends at once are both counted is the model's choice, log 19).
PREVIEW ON: GUARD in GUARDED, BUSY in RUNNING and HOMING, STATE in FAULTED; a taken one posts the dose of the
preview it finds, forms its lit set, setting LAMP_FAULT for a channel its lamp drops, and lights it for a first
period bounded by the cut time and the preview limit, or, where nothing is lit or the cut is 0, leaves preview off,
at a cut of 0 with its entry and exit both counted (log 19). PREVIEW OFF, and every other end of preview by
`endPreview`, posts the dose and goes dark, and changes nothing with preview off (R85 to R88, R139). -/
def Obligations.PreviewLight : Prop :=
  ((∀ (change : State → State) (s : State), atBoundary change s = boundary id change s) ∧
    (∀ (keep : Eight Bool → Eight Bool) (change : State → State) (s : State),
      (∀ p, s.light ≠ .preview p) → boundary keep change s = change s) ∧
    (∀ (keep : Eight Bool → Eight Bool) (change : State → State) (s : State) (p : Preview),
      s.light = .preview p →
      let spent := p.timer.figure - p.timer.left
      let u := change { s with
        volume := s.volume.map (fun v => postDose (leftSide v) (rightSide v)
          (doseOf (sideRate .left p.lit p.drives s) spent) (doseOf (sideRate .right p.lit p.drives s) spent) v) }
      let lit := (keep p.lit).zip
        (fun b (c : Calibration) => b && !(decide (1 ≤ levelNow u) && c.coverage == .left))
        u.settings.calibration
      let off := edge .previewOn false { u with light := .dark }
      let cut := u.volume.bind fun v =>
        cutTime v (sideRate .left lit p.drives u) (sideRate .right lit p.drives u)
      boundary keep change s =
        if lit = Eight.fill false then off
        else if cut = some 0 then setCond .doseCeiling off
        else
          let short := cut.any fun c => decide (c ≤ p.limitLeft)
          let figure := if short then cut.getD 0 else p.limitLeft
          { u with
            light := .preview
              { lit := lit, drives := p.drives, limit := p.limit, limitLeft := p.limitLeft,
                timer := { figure := figure, left := figure }, cut := cut, cutExpiry := short } })) ∧
  (∀ s : State,
      let posted (p : Preview) : Option Volume := s.volume.map fun v =>
        postDose (leftSide v) (rightSide v)
          (doseOf (sideRate .left p.lit p.drives s) (p.timer.figure - p.timer.left))
          (doseOf (sideRate .right p.lit p.drives s) (p.timer.figure - p.timer.left)) v
      (∀ d : Eight (BitVec 16),
        let c : Instr := .previewOn d
        let drives := d.map fun x => if 1000 < x.toNat then 1000 else x.toNat
        let would := s.settings.calibration.zip
          (fun (k : Calibration) x =>
            k.enabled && decide (0 < x) && !(decide (1 ≤ levelNow s) && k.coverage == .left)) drives
        let lit := would.zip (fun b (f : Option Bool) => b && !(f == some true)) s.lmn.lamps
        let dropped := would.zip (fun b (f : Option Bool) => b && f == some true) s.lmn.lamps
        let wasOn := previewing s
        let closed : State :=
          match s.light with
          | .preview p => { s with volume := posted p }
          | _ => s
        let told := if dropped.any id then setCond .lampFault closed else closed
        let entered := if wasOn then told else edge .previewOn true told
        let left (t : State) : State := edge .previewOn false { t with light := .dark }
        let limit := s.settings.previewLimit * 1000000
        let cut := entered.volume.bind fun v =>
          cutTime v (sideRate .left lit drives s) (sideRate .right lit drives s)
        let short := cut.any fun k => decide (k ≤ limit)
        let figure := if short then cut.getD 0 else limit
        let on : State := { entered with
          light := .preview { lit := lit, drives := drives, limit := limit, limitLeft := limit,
                              timer := { figure := figure, left := figure }, cut := cut, cutExpiry := short } }
        let reply (isOn : Bool) (k : Option Nat) : List Byte :=
          encDrives drives ++ set8 lit ++ bit isOn ++
            (match k with | some n => 1#8 :: num 6 n | none => 0#8 :: zeros 6)
        exec c s = .next (
          if s.csq.runState = .guarded then refused c .guard s
          else if s.csq.runState = .running ∨ s.csq.runState = .homing then refused c .busy s
          else if s.csq.runState = .faulted then refused c .state s
          else if lit = Eight.fill false then
            taken c (reply false none) s (if wasOn then left told else told)
          else if cut = some 0 then
            taken c (reply false (some 0)) s (setCond .doseCeiling (left entered))
          else taken c (reply true cut) s on)) ∧
      (∀ p, s.light = .preview p →
        exec .previewOff s = .next (taken .previewOff [] s
          (edge .previewOn false { s with volume := posted p, light := .dark }))) ∧
      ((∀ p, s.light ≠ .preview p) → exec .previewOff s = .next (taken .previewOff [] s s)) ∧
      (∀ p, s.light = .preview p →
        endPreview s = edge .previewOn false { s with volume := posted p, light := .dark }) ∧
      ((∀ p, s.light ≠ .preview p) → endPreview s = s))

/-- LOAD PLAN: RANGE for a shot count outside 1 to 8 or a camera set or policy without a code, FULL for an occupied
staged slot without REPLACE, and else the plan staged with each drive level, on-time and delay at the nearer limit
of its range, a delay no longer than its on-time. QUERY PLAN, READ CAMERAS: what stands, changing nothing; an empty
slot keeps the place of a plan id and a count (R107 to R109, R116; log 16). A plan in bytes, and READ CAMERAS: frame
count, RDY level and pending of the left port and then of the right (log 41), a RDY level as 1 for ready and 0 for
not ready (log 40), and of the pass the shot step, QUEUE_WAIT only while the holding slot is occupied, the plan id
and the shot index, absent with no pass (log 15). -/
def Obligations.PlanRequests : Prop :=
  (∀ s : State,
      (∀ (flags : Byte) (planId : BitVec 16) (shots : List ShotFields),
        let c : Instr := .loadPlan flags planId shots
        let coded (x : ShotFields) : Bool := decide (x.cameras.toNat ≤ 2) && decide (x.policy.toNat ≤ 1)
        let took (x : ShotFields) : Shot :=
          let onTime := if x.onTime.toNat < 100 then 100
            else if 2000000 < x.onTime.toNat then 2000000 else x.onTime.toNat
          { cameras := if x.cameras = 0 then .left else if x.cameras = 1 then .right else .both
            drives := x.drives.map fun d => if 1000 < d.toNat then 1000 else d.toNat
            onTime := onTime, delay := if onTime < x.delay.toNat then onTime else x.delay.toNat
            tag := x.tag.toNat, policy := if x.policy = 0 then .hold else .proceed }
        let plan : Plan := { id := planId.toNat, shots := shots.map took }
        exec c s = .next (
          if shots = [] ∨ 8 < shots.length then refused c .range s
          else if ¬ shots.all coded then refused c .range s
          else if s.spu.staged.isSome ∧ flags.getLsbD 0 = false then refused c .full s
          else taken c (encPlan plan ++ bit s.spu.staged.isSome) s
            { s with spu := { s.spu with staged := some plan } })) ∧
      (∀ slot : Byte, exec (.queryPlan slot) s = .next (taken (.queryPlan slot)
        (match if slot = 0 then s.spu.active else s.spu.staged with
          | some p => 1#8 :: encPlan p
          | none => [0, 0, 0, 0]) s s)) ∧
      exec .readCameras s = .next (taken .readCameras (encCameras s) s s)) ∧
  ((∀ d : Eight Nat, encDrives d = d.toList.flatMap fun x => num 2 x) ∧
    (∀ p : Plan, encPlan p = num 2 p.id ++ num 1 p.shots.length ++ p.shots.flatMap fun x =>
      num 1 (match x.cameras with
        | .left => 0
        | .right => 1
        | .both => 2) ++ encDrives x.drives ++ num 4 x.onTime ++ num 4 x.delay ++ num 1 x.tag ++
      num 1 (match x.policy with
        | .hold => 0
        | .proceed => 1)) ∧
    ∀ s : State, encCameras s =
      num 4 s.spu.left.frames ++ bit (s.lmn.readyLeft == some true) ++ bit s.spu.left.pending ++
      num 4 s.spu.right.frames ++ bit (s.lmn.readyRight == some true) ++ bit s.spu.right.pending ++
      (match s.spu.pass with
        | none => zeros 6
        | some p =>
          num 1 (match p.step with
            | .between => 0
            | .toBegin => if queueWaiting s then 1 else 0
            | .readyWait _ => 2
            | .flash _ => 3
            | .grace _ => 4) ++ (1 :: num 2 p.plan.id) ++ (1 :: num 1 p.index)))

/-! ### Requests of the result queue, the counters, the link and the store (chapters 8 to 10) -/

/-- TAKE RESULT is taken in every state: with an empty FIFO it replies the mark that no record was taken and changes
nothing; otherwise the head is removed and carried, the held record moves to the tail, the record now at the head
adds its flags to the accumulated summary, and the stale timer is restarted, or stopped with nothing left. At a full
FIFO a record produced just before or just after it leaves the same records in the same order, with the holding slot
empty (R128). -/
def Obligations.ResultsAreTaken : Prop :=
  ∀ s : State,
    (s.rq.fifo = [] → exec .takeResult s = .next (taken .takeResult
      (num 1 0 ++ bit s.rq.holding.isSome ++ [0]) s s)) ∧
    (∀ r rest, s.rq.fifo = r :: rest →
      let left := rest ++ s.rq.holding.toList
      let restarted : Option Timer :=
        if s.settings.staleInterval = 0 then none
        else some { figure := s.settings.staleInterval * 1000000, left := s.settings.staleInterval * 1000000 }
      exec .takeResult s = .next (taken .takeResult
        (num 1 left.length ++ bit false ++ 1#8 :: encRecord r) s
        { s with rq := { s.rq with
          fifo := left, holding := none
          accumulated := match left with
            | h :: _ => s.rq.accumulated ||| h.flags
            | [] => s.rq.accumulated
          staleTimer := if left = [] then none else restarted } })) ∧
    (∀ (r : Record) (rest : List Record) (flags : BitVec 16) (body : RecordBody),
      s.rq.fifo = r :: rest → s.rq.fifo.length = s.settings.capacity → s.rq.holding = none →
      let a := takeHead rest (handOver flags body s)
      let b := handOver flags body (takeHead rest s)
      a.rq.fifo = b.rq.fifo ∧ a.rq.holding = none ∧ b.rq.holding = none ∧
        a.rq.nextNumber = b.rq.nextNumber)

/-- PEEK RESULT is taken in every state and carries the oldest record and the number of records, or a mark that the
FIFO is empty, and changes nothing; READ QUEUE carries the capacity, the number of records, the holding slot, the
next record number, the summary mode, the stale interval and whether its timer runs, and changes nothing; READ
CONDITIONS carries the summary last (R129). -/
def Obligations.QueueIsRead : Prop :=
  ∀ s : State,
    exec .peekResult s = .next (taken .peekResult
      (num 1 s.rq.fifo.length ++ bit s.rq.holding.isSome ++
        (match s.rq.fifo with
          | r :: _ => 1#8 :: encRecord r
          | [] => [0])) s s) ∧
    exec .readQueue s = .next (taken .readQueue
      (num 1 s.settings.capacity ++ num 1 s.rq.fifo.length ++ bit s.rq.holding.isSome ++
        num 4 s.rq.nextNumber ++
        num 1 (match s.rq.mode with
          | .head => 0
          | .accumulated => 1) ++
        num 1 s.settings.staleInterval ++ bit s.rq.staleTimer.isSome) s s) ∧
    ∃ content, exec .readConditions s = .next (taken .readConditions
      (content ++ num 2 (match s.rq.mode, s.rq.fifo with
        | .accumulated, _ => s.rq.accumulated.toNat
        | .head, r :: _ => r.flags.toNat
        | .head, [] => 0)) s s)

/-- FLUSH RESULTS is refused BUSY in RUNNING, and taken in every other run state: it replies the number of records
discarded, empties the FIFO and the holding slot, stops the stale timer, and the level conditions fall; the next
record number and the accumulated summary are kept (R130). -/
def Obligations.ResultsAreFlushed : Prop :=
  ∀ s : State,
    let flushed : State :=
      { s with rq := { s.rq with fifo := [], holding := none, staleTimer := none } }
    exec .flushResults s = .next (
      if s.csq.runState = .running then refused .flushResults .busy s
      else taken .flushResults
        (num 1 (s.rq.fifo.length + (if s.rq.holding.isSome then 1 else 0))) s flushed) ∧
    (conditionSet flushed).getLsbD 24 = s.lif.latched.getLsbD 24 ∧
    (conditionSet flushed).getLsbD 25 = s.lif.latched.getLsbD 25

/-- SET QUEUE CAPACITY: BUSY in a save, RANGE but for 32 and 64, BUSY with a record held, and else the new capacity.
SET SUMMARY MODE: the mode, RANGE for a value without one. CLEAR SUMMARY: the accumulated summary becomes the flags
of the record at the head, or none (R131, R132). READ TIME, READ COUNTERS and READ HISTORY report what stands and
change nothing; SET COUNTER replaces a counter whole with its residue 0, RANGE for a counter or a selector without a
code; SET HISTORY ENABLE sets the recording enable, RANGE above 1 (R135, R136, R142). A counter and the history in
bytes; an empty history record keeps its place (log 15). -/
def Obligations.QueueAndCounterSettings : Prop :=
  (∀ s : State,
      (∀ capacity : Byte, exec (.setQueueCapacity capacity) s = .next (
        let c : Instr := .setQueueCapacity capacity
        if s.sto.save.isSome then refused c .busy s
        else if capacity ≠ 32 ∧ capacity ≠ 64 then refused c .range s
        else if s.rq.fifo ≠ [] ∨ s.rq.holding.isSome then refused c .busy s
        else taken c [] s { s with settings := { s.settings with capacity := capacity.toNat } })) ∧
      (∀ mode : Byte, exec (.setSummaryMode mode) s = .next (
        let c : Instr := .setSummaryMode mode
        if mode = 0 then taken c [] s { s with rq := { s.rq with mode := .head } }
        else if mode = 1 then taken c [] s { s with rq := { s.rq with mode := .accumulated } }
        else refused c .range s)) ∧
      exec .clearSummary s = .next (taken .clearSummary [] s { s with rq := { s.rq with
        accumulated := match s.rq.fifo with
          | r :: _ => r.flags
          | [] => 0 } })) ∧
  (∀ s : State,
      exec .readTime s = .next (taken .readTime (num 6 s.cth.timeBase) s s) ∧
      exec .readCounters s = .next (taken .readCounters (encCounter s.cth.a ++ encCounter s.cth.b) s s) ∧
      exec .readHistory s = .next (taken .readHistory (encHistories s.cth) s s) ∧
      (∀ (counter : Byte) (value : BitVec 32) (event edge threshold invert : Byte),
        let c : Instr := .setCounter counter value event edge threshold invert
        let events : List CounterEvent :=
          [.none, .turnsCompleted, .turnFaults, .turnRetries, .settleRestarts, .shotsFired, .shotsWithheld,
           .framesLeft, .framesRight, .strayFrames, .guardTrips, .holdsEntered, .running, .held, .queueWait,
           .previewOn]
        exec c s = .next (
          match events[event.toNat]? with
          | none => refused c .range s
          | some e =>
            let k : Counter :=
              { value := value.toNat, event := e, edge := decide (edge ≠ 0), threshold := threshold.toNat
                invert := decide (invert ≠ 0), residue := 0 }
            if counter = 0 then taken c (encCounter k) s { s with cth := { s.cth with a := k } }
            else if counter = 1 then taken c (encCounter k) s { s with cth := { s.cth with b := k } }
            else refused c .range s)) ∧
      (∀ enable : Byte, exec (.setHistoryEnable enable) s = .next (
        if 1 < enable.toNat then refused (.setHistoryEnable enable) .range s
        else taken (.setHistoryEnable enable) [enable] s
          { s with cth := { s.cth with recording := decide (enable = 1) } }))) ∧
  ((∀ c : Counter, encCounter c = num 4 c.value ++
      num 1 (match c.event with
        | .none => 0
        | .turnsCompleted => 1
        | .turnFaults => 2
        | .turnRetries => 3
        | .settleRestarts => 4
        | .shotsFired => 5
        | .shotsWithheld => 6
        | .framesLeft => 7
        | .framesRight => 8
        | .strayFrames => 9
        | .guardTrips => 10
        | .holdsEntered => 11
        | .running => 12
        | .held => 13
        | .queueWait => 14
        | .previewOn => 15) ++ bit c.edge ++ num 1 c.threshold ++ bit c.invert) ∧
    ∀ c : Cth,
      let entry (x : Option HistoryRecord) : List Byte :=
        match x with
        | none => zeros 21
        | some h => 1 :: (num 2 h.fromOpening ++ num 2 h.toOpening ++ num 2 h.leaf ++
            num 1 (match h.direction with
              | .forward => 0
              | .backward => 1) ++ num 6 h.start ++ num 6 h.finish ++
            num 1 (match h.result with
              | .complete => 0
              | .fault .gripFail => 1
              | .fault .doubleLeaf => 2
              | .fault .motionTimeout => 3
              | .fault .aborted => 4
              | .fault .guard => 5))
      encHistories c = bit c.recording ++ entry c.last ++ entry c.prior ++ entry c.fault)

/-- The requests of the link, the conditions, the auxiliary outputs, the identification and the store: reads reply
what stands and change nothing; CLEAR LINK COUNTS zeroes both counts; CLEAR CONDITIONS clears the latched conditions
its mask names; SET MASK keeps the assigned positions, and a notice falls due where a standing condition is newly
enabled; SET AUX and CLEAR AUX set the manual levels their masks name; RESET is answered OK and takes effect when
its reply has been sent; SAVE SETTINGS captures the working copies, BUSY during a save and outside UNHOMED and
DISARMED (R144, R146 to R150, R152; the rate in 4 bytes, a byte for each manual level and 2 bytes for the part code
are the model's choice, log 16, that a save lasts exactly 250 ms, the latest moment the rule allows, is the model's
choice, log 27; and the hardware revision is a free value, log 30). ATTN is asserted while a condition stands whose
enable is set. Each auxiliary output is high by its source: its manual level, RUNNING, ATTN, or the guard latch
(R148, R149). READ CONDITIONS in bytes: with no volume open the hit set is empty with no byte of presence (log 38)
and the position is absent (log 15). -/
def Obligations.LinkAndStoreRequests : Prop :=
  (∀ s : State,
      exec .readLink s = .next (taken .readLink
        (num 2 s.lif.drops ++ num 2 s.lif.checkErrors ++ num 4 (strapRate s.lif.straps)) s s) ∧
      exec .clearLinkCounts s = .next (taken .clearLinkCounts [] s
        { s with lif := { s.lif with drops := 0, checkErrors := 0 } }) ∧
      exec .readConditions s = .next (taken .readConditions (encStatus s) s s) ∧
      (∀ mask : BitVec 32,
        let latched := s.lif.latched &&& ~~~mask
        exec (.clearConditions mask) s = .next (taken (.clearConditions mask)
          (num 4 (latched ||| levelConditions s).toNat) s { s with lif := { s.lif with latched := latched } }) ∧
        exec (.setMask mask) s = .next (taken (.setMask mask) (num 4 (mask &&& 0x0707FFFF).toNat) s
          { s with lif := { s.lif with
            mask := mask &&& 0x0707FFFF
            noticeDue := s.lif.noticeDue ||
              decide (conditionSet s &&& (mask &&& 0x0707FFFF) &&& ~~~s.lif.mask ≠ 0) } })) ∧
      (∀ mask : Byte,
        let v := s.lmn.auxManual
        let dest (high : Bool) : Four Bool :=
          ⟨if mask.getLsbD 0 then high else v.c0, if mask.getLsbD 1 then high else v.c1,
           if mask.getLsbD 2 then high else v.c2, if mask.getLsbD 3 then high else v.c3⟩
        let reply (w : Four Bool) : List Byte := bit w.c0 ++ bit w.c1 ++ bit w.c2 ++ bit w.c3
        exec (.setAux mask) s = .next (taken (.setAux mask) (reply (dest true)) s
          { s with lmn := { s.lmn with auxManual := dest true } }) ∧
        exec (.clearAux mask) s = .next (taken (.clearAux mask) (reply (dest false)) s
          { s with lmn := { s.lmn with auxManual := dest false } })) ∧
      exec .identify s = .next (taken .identify
        (num 2 0x0D3B ++ num 2 0x0062 ++ num 1 (Config.hardwareRevision.val + 1) ++
          num 1 (match s.lif.cause with
            | .power => 0
            | .pin => 1
            | .supply => 2
            | .request => 3)) s s) ∧
      exec .reset s = .next (taken .reset [] s s) ∧
      exec .saveSettings s = .next (
        if s.sto.save.isSome then refused .saveSettings .busy s
        else if s.csq.runState ≠ .unhomed ∧ s.csq.runState ≠ .disarmed then refused .saveSettings .busy s
        else taken .saveSettings [] s { s with sto := { s.sto with
          save := some { captured := s.settings, timer := { figure := 250000, left := 250000 } } } }) ∧
      exec .readStore s = .next (taken .readStore (bit s.sto.save.isSome ++ bit s.sto.agreed) s s)) ∧
  (∀ s : State,
      attn s = decide (conditionSet s &&& s.lif.mask ≠ 0) ∧
      (let out (source : AuxSource) (manual : Bool) : Bool :=
          match source with
          | .manual => manual
          | .running => decide (s.csq.runState = .running)
          | .attention => attn s
          | .guard => s.grd.latch
        let x := s.settings.auxSources
        let m := s.lmn.auxManual
        auxOutputs s = ⟨out x.c0 m.c0, out x.c1 m.c1, out x.c2 m.c2, out x.c3 m.c3⟩) ∧
      (let r := s.csq.reasons
        let flag (b : Bool) (n : Nat) : Nat := if b then n else 0
        encStatus s =
          num 4 (conditionSet s).toNat ++ num 4 s.lif.mask.toNat ++
          num 1 (match s.csq.runState with
            | .unhomed => 0
            | .homing => 1
            | .disarmed => 2
            | .armed => 3
            | .running => 4
            | .held => 5
            | .faulted => 6
            | .guarded => 7) ++
          num 1 (match s.csq.scope with
            | none => 0
            | some .continuous => 1
            | some .oneTurn => 2
            | some .oneCapture => 3
            | some .platenMove => 4) ++
          num 1 (match s.csq.phase with
            | .none => 0
            | .platenUp => 1
            | .lift => 2
            | .grip => 3
            | .carry => 4
            | .release => 5
            | .returning => 6
            | .platenDown => 7
            | .settle => 8
            | .reverseCarry => 9
            | .awaitHand => 10) ++
          num 1 (flag r.step 1 + flag r.mark 2 + flag r.camera 4 + flag r.dose 8 + flag r.lamp 16) ++
          num 1 (match s.csq.resumePoint with
            | none => 0
            | some .readyCheck => 1
            | some .afterShot => 2
            | some .afterPass => 3
            | some .beforeTurn => 4
            | some .afterSettle => 5) ++
          num 1 (match s.volume with
            | none => 0
            | some v => flag v.hits.c0 1 + flag v.hits.c1 2 + flag v.hits.c2 4 + flag v.hits.c3 8) ++
          num 1 (match s.csq.faultKind with
            | none => 0
            | some .gripFail => 1
            | some .doubleLeaf => 2
            | some .motionTimeout => 3
            | some .aborted => 4
            | some .guard => 5) ++
          (match s.volume with
            | none => zeros 5
            | some v => 1 :: encPosition v) ++
          num 2 (match s.rq.mode, s.rq.fifo with
            | .accumulated, _ => s.rq.accumulated.toNat
            | .head, h :: _ => h.flags.toNat
            | .head, [] => 0)))

/-! ### Runs and movements (chapters 3 and 4) -/

/-- The two evaluations of stop marks in a continuous run. Each replaces the hit set with the enabled marks of its
class whose range holds a leaf named by the opening, at level 0 alone, and sets MARK_HIT for a hit. At an opening
completion, opening N waits for its END record, a pending HALT ends the run, a hit or step mode OPENING holds at
AFTER_PASS, and else the BEFORE_TURN evaluation follows; there a hit holds at BEFORE_TURN unless pass-once is set,
and else the forward turn waits for the holding slot (R19, R65, R66; log 24). -/
def Obligations.RunsAreDecided : Prop :=
  ∀ (s : State) (v : Volume), s.volume = some v →
    let k := underlying v
    let hit (cls : MarkClass) (a b : Nat) (m : Mark) : Bool :=
      m.enabled && decide (m.cls = cls) &&
        (decide (m.first ≤ a ∧ a ≤ m.last) || decide (m.first ≤ b ∧ b ≤ m.last))
    let evaluate (cls : MarkClass) (a b : Nat) : Four Bool :=
      if v.stack = [] then v.marks.map (hit cls a b) else Four.fill false
    let noted (hits : Four Bool) : State :=
      let t : State := { s with volume := some (if v.stack = [] then { v with hits := hits } else v) }
      if hits = Four.fill false then t else setCond .markHit t
    let r := s.csq.reasons
    let after := evaluate .afterCapture k (k + 1)
    let before := evaluate .beforeTurn (k + 1) (k + 1)
    let anyAfter := decide (after ≠ Four.fill false)
    let step := decide (s.csq.stepMode = .opening)
    let reasons : Reasons := { r with mark := r.mark || anyAfter, step := r.step || step }
    (openingCompletion s =
      if k = v.leafCount then
        { noted after with csq := { s.csq with
            phase := .none, reasons := reasons, awaiting := some .endRecord } }
      else if s.csq.haltPending then endRun (noted after)
      else if reasons ≠ Reasons.empty then enterHeld reasons .afterPass (noted after)
      else beforeTurn (noted after)) ∧
    (beforeTurn s =
      if before ≠ Four.fill false ∧ s.csq.passOnce = false then
        enterHeld { r with mark := true } .beforeTurn (noted before)
      else
        { noted before with csq := { s.csq with phase := .none, awaiting := some (.turn .forward) } })

/-- What waits for the holding slot begins once it is empty, in RUNNING. A turn takes the leaf of its direction, by
hand for a BRITTLE volume or a leaf marked HAND, with no retry yet and its scope open, and enters PLATEN_UP. The END
record carries the volume's totals, sets VOLUME_END, and ends the run. With none of this due the events have no
effect (R16, R17, R44, R45, R50, R65, R125, R127, R138; log 3, log 22). A turn ends with one TURN record, whose
UNSETTLED flag stands for a settle at its limit; a completed turn is counted, any other marks its leaf TURN_FAULTED;
the history takes the turn as its last where it records, and a freezing one also as its fault; the event is
reported, the turn's scope judged, and pass-once cleared. With no turn in progress, as in a PLATEN UP or PLATEN
DOWN, no record is produced and the history is not touched (R11, R47, R55, R66, R125, R137, R138, R141). -/
def Obligations.TurnsBeginAndEnd : Prop :=
  (∀ s : State,
      let slot := s.csq.runState = .running ∧ s.rq.holding = none
      (∀ v : Volume, s.volume = some v → ∀ d : Direction, slot → s.csq.awaiting = some (.turn d) →
        (if d = .forward then underlying v < v.leafCount else 1 ≤ underlying v) →
        let leaf := if d = .forward then underlying v + 1 else underlying v
        let byHand := decide (v.handling = .brittle) ||
          v.leaves[leaf]?.any (fun l => decide (l.override = .hand))
        ∀ g : Gauge, exec (.turnBegin g) s = .next (finish s (enterPlatenUp g { s with
          csq := { s.csq with
            awaiting := none, retries := 0
            turn := some { direction := d, leaf := leaf, fromOpening := underlying v, hand := byHand
                           start := s.cth.timeBase, reversal := false } }
          cth := { s.cth with
            tallies := { s.cth.tallies with retries := 0, restarts := 0, turnOpen := true } } }))) ∧
      (∀ g : Gauge, ¬ (slot ∧ ∃ d, s.csq.awaiting = some (.turn d)) →
        exec (.turnBegin g) s = .next (finish s s)) ∧
      (∀ v : Volume, s.volume = some v → slot → s.csq.awaiting = some .endRecord →
        exec .endRecord s = .next (finish s (endRun (setCond .volumeEnd (handOver 0 (.finish
          { shelfMark := v.shelfMark, job := v.job, accumulator := v.accumulator, fired := v.fired
            withheld := v.withheld, turnsCompleted := v.turnsCompleted }) s))))) ∧
      (¬ (slot ∧ s.csq.awaiting = some .endRecord) → exec .endRecord s = .next (finish s s))) ∧
  ((∀ (s : State) (t : TurnJob) (result : TurnResult) (freezing unsettled : Bool),
      s.csq.turn = some t →
      let inSettle := decide (s.csq.phase = .settle)
      let dest := (s.volume.map underlying).getD 0
      let since (start : Nat) : Nat := ((s.cth.timeBase + 2 ^ 48 - start) % 2 ^ 48) / 1000
      let record : TurnRecord :=
        { direction := t.direction, leaf := t.leaf, fromOpening := t.fromOpening, toOpening := dest
          result := result, hand := t.hand, retries := if t.hand then 0 else s.csq.retries
          settleRestarts := if inSettle then s.csq.settleRestarts else 0
          settleDuration := if inSettle then since s.csq.settleStart else 0
          turnDuration := since t.start }
      let entry : HistoryRecord :=
        { fromOpening := t.fromOpening, toOpening := dest, leaf := t.leaf, direction := t.direction
          start := t.start, finish := s.cth.timeBase, result := result }
      let h := handOver (if unsettled then 0x0100#16 else 0#16) (.turn record) s
      let written : State := { h with
        volume := s.volume.map fun v =>
          if result = .complete then
            { v with turnsCompleted := if v.turnsCompleted < 4294967295 then v.turnsCompleted + 1
                                       else v.turnsCompleted }
          else { v with leaves := v.leaves.modify t.leaf fun l => { l with turnFaulted := true } }
        cth :=
          if s.cth.recording then
            { s.cth with prior := s.cth.last, last := some entry,
                         fault := if freezing then some entry else s.cth.fault, recording := !freezing }
          else s.cth }
      let told := closeTurnScope
        (event (if result = .complete then .turnsCompleted else .turnFaults) written)
      endTurn result freezing unsettled s =
        { told with csq := { s.csq with turn := none, passOnce := false } }) ∧
    (∀ (s : State) (result : TurnResult) (freezing unsettled : Bool),
      s.csq.turn = none → endTurn result freezing unsettled s = s))

/-- A phase on its entry: its timer of the phase's timeout, CARRY's doubled for a FRAGILE volume, and its outputs;
where the input that ends it already stands confirmed it ends at once. A DOUBLE reading at the entry to CARRY makes
the turn a reversal whose REVERSE_CARRY is complete at once. The end of a phase leads to the next: a PLATEN UP
movement ends its run (log 34), a hand turn awaits the hand, RELEASE moves the position in a turn that is no
reversal, RETURN of a reversal is a DOUBLE_LEAF fault, and PLATEN_DOWN completes homing or leads to SETTLE, whose
limit is the interval times the multiplier (R40, R47 to R49, R51, R53, R56, R57; the directions of the arm drive and
the outputs that stand from phase to phase are the model's reading, log 14). -/
def Obligations.MovementPhasesAreEntered : Prop :=
  ∀ (g : Gauge) (s : State),
    let a := s.csq.actuators
    let tm := s.settings.timing
    let timer (ms : Nat) : Option Timer := some { figure := ms * 1000, left := ms * 1000 }
    let into (p : Phase) (ms : Nat) (x : Actuators) : State :=
      { s with csq := { s.csq with phase := p, phaseTimer := timer ms, actuators := x } }
    let off : Actuators := ⟨false, false, false, false, false, .rest⟩
    let forward := decide ((s.csq.turn.map (·.direction)).getD .forward = .forward)
    let carry := if s.volume.any (fun v => v.handling == .fragile) then 2 * tm.carry else tm.carry
    let reversed : Option TurnJob := s.csq.turn.map fun t => { t with reversal := true }
    let back : State :=
      let u := into .reverseCarry carry
        { off with vacuum := true, armRun := true, armDirection := if forward then .toRight else .toLeft }
      { u with csq := { u.csq with turn := reversed } }
    let up := into .platenUp tm.platenUp { off with platenUp := true }
    let lift := into .lift tm.lift { a with platenUp := false, platenDown := false, airKnife := true }
    let grip := into .grip tm.grip { a with vacuum := true }
    let release := into .release tm.release { a with armRun := false, vacuum := false }
    let park := into .returning tm.returning { off with armRun := true, armDirection := .toPark }
    let down := into .platenDown tm.platenDown { off with platenDown := true }
    (enterPlatenUp g s = if s.lmn.platenUp = some true then platenUpDone g up else up) ∧
    (platenUpDone g s =
      match s.csq.turn with
      | none => endRun { s with csq := { s.csq with
          actuators := off, phaseTimer := none, settleTimer := none, settleLimit := none } }
      | some t =>
        if t.hand then
          setCond .handTurnWait { s with csq := { s.csq with
            phase := .awaitHand, phaseTimer := none, actuators := off } }
        else enterLift g s) ∧
    (enterLift g s = if s.lmn.lift = some true then enterGrip g lift else lift) ∧
    (enterGrip g s = if s.lmn.grip = some true then enterCarry g grip else grip) ∧
    (enterCarry g s =
      match g with
      | .double => enterRelease back
      | .single => into .carry carry
          { off with vacuum := true, armRun := true, armDirection := if forward then .toLeft else .toRight }) ∧
    (carryDone g s =
      match g with
      | .double => back
      | .single => enterRelease s) ∧
    (enterRelease s = if s.lmn.release = some true then releaseDone release else release) ∧
    (releaseDone s =
      match s.csq.turn with
      | some t =>
        if t.reversal then enterReturn s
        else enterReturn { s with volume := s.volume.map fun v => { v with
          position := .opening (match t.direction with
            | .forward => underlying v + 1
            | .backward => underlying v - 1)
          leaves := v.leaves.modify t.leaf fun l => { l with handTurned := false } } }
      | none => enterReturn s) ∧
    (enterReturn s = if s.lmn.park = some true then returnDone park else park) ∧
    (returnDone s =
      if s.csq.turn.any (·.reversal) then
        faultMove .doubleLeaf { s with csq := { s.csq with actuators := off } }
      else enterPlatenDown s) ∧
    (enterPlatenDown s = if s.lmn.platenDown = some true then platenDownDone down else down) ∧
    (platenDownDone s =
      if s.csq.runState = .homing then
        { s with csq := { s.csq with
            runState := .disarmed, phase := .none, armCertain := true, actuators := off
            phaseTimer := none, settleTimer := none, settleLimit := none } }
      else
        { s with csq := { s.csq with
            phase := .settle, phaseTimer := none, actuators := off
            settleTimer := timer tm.interval, settleLimit := timer (tm.interval * tm.multiplier)
            settleStart := s.cth.timeBase, settleRestarts := 0 } })

/-- The expiry of the phase timer. In HOMING it is HOME_FAIL: UNHOMED, every output off, the arm not certain. In
LIFT and GRIP it retries the pick, counted, with vacuum off and air knife on, as often as the handling class allows,
3 for GENERAL, 1 for FRAGILE and 0 for BRITTLE, and then is GRIP_FAIL. In any other phase it is MOTION_TIMEOUT with
the arm not certain and only a vacuum that carries a leaf kept on. A movement that ends in a fault ends its turn,
freezing the history, closes a settle scope, and stands in FAULTED with TURN_FAULT and nothing of the run left. The
time its timer has left passes first (log 2), and with its timer stopped the event has no effect (R40, R47, R50,
R52, R55, R59; log 3; the arm direction output at rest is the model's choice, log 14). SETTLE completes when its
interval has passed without a page-motion change, which clears the unsettled mark, or at its limit, which sets it
and SETTLE_LIMIT; the turn ends COMPLETE with its record, the settle scope closes, and a continuous run ends at a
pending HALT, holds at AFTER_SETTLE in step mode TURN, or goes on with its pass; any other scope ends. The time its
timer has left passes first, also where the other of the two timers is nearer, which is the model's choice (log 2),
and with its timer stopped the event has no effect (R45, R47, R57, R58, R66; log 3). -/
def Obligations.MovementsEndByTime : Prop :=
  (∀ (g : Gauge) (s : State),
      let off : Actuators := ⟨false, false, false, false, false, .rest⟩
      (s.csq.phaseTimer = none → exec (.phaseTimeout g) s = .next (finish s s)) ∧
      (∀ t, s.csq.phaseTimer = some t →
        let u := elapse t.left s
        let allowed : Nat :=
          match u.volume with
          | some v => if v.handling = .general then 3 else if v.handling = .fragile then 1 else 0
          | none => 0
        let carries := decide (u.csq.phase = .carry ∨ u.csq.phase = .reverseCarry)
        exec (.phaseTimeout g) s = .next (finish s
          (if u.csq.runState = .homing then
            setCond .homeFail { u with csq := { u.csq with
              runState := .unhomed, phase := .none, armCertain := false, actuators := off
              phaseTimer := none, settleTimer := none, settleLimit := none } }
          else if u.csq.phase = .lift ∨ u.csq.phase = .grip then
            if u.csq.retries < allowed then
              enterLift g (event .turnRetries { u with csq := { u.csq with
                retries := u.csq.retries + 1
                actuators := { u.csq.actuators with vacuum := false, airKnife := true } } })
            else faultMove .gripFail { u with csq := { u.csq with actuators := off } }
          else
            faultMove .motionTimeout { u with csq := { u.csq with
              armCertain := false
              actuators := { off with vacuum := carries && u.csq.actuators.vacuum } } }))) ∧
      (∀ k : FaultKind,
        let e := closeSettleScope (endTurn (.fault k) true false s)
        let f := setRunState .faulted e
        faultMove k s = setCond .turnFault { f with csq := { e.csq with
          runState := .faulted, scope := none, phase := .none, faultKind := some k
          reasons := ⟨false, false, false, false, false⟩, resumePoint := none, setAside := none
          haltPending := false, passOnce := false, awaiting := none, turn := none
          phaseTimer := none, settleTimer := none, settleLimit := none } })) ∧
  (∀ s : State,
      let done (atLimit : Bool) (u : State) : State :=
        let told := if atLimit then setCond .settleLimit u else u
        let e := closeSettleScope (endTurn .complete false atLimit told)
        let v : State := { e with csq := { e.csq with
          phase := .none, unsettled := atLimit, phaseTimer := none, settleTimer := none
          settleLimit := none } }
        if s.csq.scope = some .continuous then
          if s.csq.haltPending then endRun v
          else if s.csq.stepMode = .turn then
            enterHeld { s.csq.reasons with step := true } .afterSettle v
          else startPass v
        else endRun v
      (s.csq.settleTimer = none → exec .settleExpiry s = .next (finish s s)) ∧
      (s.csq.settleLimit = none → exec .settleLimitReached s = .next (finish s s)) ∧
      (∀ t, s.csq.settleTimer = some t →
        exec .settleExpiry s = .next (finish s (done false (elapse t.left s)))) ∧
      (∀ t, s.csq.settleLimit = some t →
        exec .settleLimitReached s = .next (finish s (done true (elapse t.left s)))))

/-- A confirmed intrusion with guard enable on, in HOMING or in RUNNING outside AWAIT_HAND, trips the guard: the
latch is set and read-seen cleared; the motion counts as interrupted in HOMING and in the phases that drive an
actuator, and clears the arm-certainty flag; the capture is stopped with flag GUARD, a turn ends with one TURN
record of result GUARD, its leaf and the history faulted and frozen, and TURN_FAULT; every output goes off but a
vacuum holding a leaf in CARRY or REVERSE_CARRY; CSQ stands in GUARDED with fault kind GUARD and nothing of the run
left; GUARD is set and GUARD_TRIPS counted; the plans, the settings, the store and the mask are kept (R73 to R75;
the unsettled mark of a SETTLE in a PLATEN DOWN, log 29, and the arm direction output at rest, log 14, are the
model's choices). -/
def Obligations.GuardTrips : Prop :=
  (∀ (interrupted : Bool) (s : State),
    let c := stopCapture .guard
      { s with grd := { latch := true, readSeen := false, interrupted := interrupted } }
    let marked : State := { c with csq := { c.csq with
      unsettled := c.csq.unsettled || decide (s.csq.phase = .settle) } }
    let ended := if s.csq.turn = none then marked
      else setCond .turnFault (endTurn (.fault .guard) true false marked)
    let k := closeSettleScope ended
    let g := setRunState .guarded k
    let vacuum := decide (s.csq.phase ∈ [.carry, .reverseCarry]) && k.csq.actuators.vacuum
    trip interrupted s = event .guardTrips (setCond .guard { g with csq := { k.csq with
      runState := .guarded, scope := none, phase := .none, faultKind := some .guard
      armCertain := k.csq.armCertain && !interrupted
      reasons := ⟨false, false, false, false, false⟩, resumePoint := none, setAside := none
      haltPending := false, passOnce := false, awaiting := none, turn := none
      phaseTimer := none, settleTimer := none, settleLimit := none
      actuators := ⟨false, false, false, vacuum, false, .rest⟩ } })) ∧
  (∀ s : State, tripsNow s = (s.settings.guardEnable && decide (s.csq.runState = .homing ∨
    (s.csq.runState = .running ∧ s.csq.phase ≠ .awaitHand)))) ∧
  (∀ s : State, s.settings.guardEnable = true →
    s.csq.runState = .homing ∨ (s.csq.runState = .running ∧ s.csq.phase ≠ .awaitHand) →
    let interrupted := decide (s.csq.runState = .homing ∨
      s.csq.phase ∈ [.platenUp, .lift, .grip, .carry, .reverseCarry, .release, .returning, .platenDown])
    let t := finish s (trip interrupted { s with lmn := { s.lmn with curtain := some true } })
    exec .lightCurtainIntruded s = .next t ∧
      t.grd = { latch := true, readSeen := false, interrupted := interrupted } ∧
      t.lmn = { s.lmn with curtain := some true } ∧
      t.csq = { s.csq with
        runState := .guarded, scope := none, phase := .none, faultKind := some .guard
        armCertain := s.csq.armCertain && !interrupted
        reasons := ⟨false, false, false, false, false⟩, resumePoint := none, setAside := none
        haltPending := false, passOnce := false, awaiting := none, turn := none
        phaseTimer := none, settleTimer := none, settleLimit := none
        unsettled := s.csq.unsettled || decide (s.csq.phase = .settle)
        actuators := ⟨false, false, false, decide (s.csq.phase ∈ [.carry, .reverseCarry]) &&
          s.csq.actuators.vacuum, false, .rest⟩ } ∧
      t.light = .dark ∧ t.spu.pass = none ∧ t.spu.active = s.spu.active ∧ t.spu.staged = s.spu.staged ∧
      t.spu.left.trig = none ∧ t.spu.right.trig = none ∧
      t.lif.latched.getLsbD 4 = true ∧ t.lif.mask = s.lif.mask ∧ t.settings = s.settings ∧
      t.sto = s.sto ∧ (s.csq.turn.isSome → t.lif.latched.getLsbD 3 = true) ∧
      (∀ j, s.csq.turn = some j → s.spu.pass = none → s.rq.holding = none →
        t.cth.recording = false ∧
        ∃ r body, heldRecords t.rq = heldRecords s.rq ++ [r] ∧ r.number = s.rq.nextNumber ∧
          r.body = .turn body ∧ body.result = .fault .guard ∧ body.leaf = j.leaf ∧
          body.direction = j.direction ∧ body.fromOpening = j.fromOpening))

/-! ### Passes and shots (chapter 7) -/

/-- The start of a capture pass over an open volume: a staged plan is taken for a continuous pass, or where no plan
is active, with PLAN_TAKEN; the pass fixes its plan, its sides, whether it is a detour, unflattened or unsettled,
and which sides were shot before; its scope opens; and its first shot that a detour does not skip is due, or with
none the pass completes (R44, R109, R110). The end of a pass, complete or abandoned: each side shot in it takes
WITHHELD, FLAGGED or CAPTURED and, if it was shot before the pass, one retake more, to at most 255; the pass
progress is cleared and its scope judged. A completed pass then clears the unsettled mark, and the run goes on: a
continuous run at its opening completion, a CAPTURE from HELD back in HELD with what it set aside, any other in
ARMED (R44, R46, R68, R119, R120); that a CAPTURE from HELD gives back the scope CONTINUOUS is the model's choice
(log 26). The side records behind the two halves: at opening k the verso of leaf k and the recto of leaf k + 1; at
level 1 to 4 the verso of the leaf of the underlying opening, which is the one at the bottom of the stack, and the
current insert side. Where a side record stands, what a change of it changes, its dose, and what a posting adds: the
two doses to their sides, both to the volume, and the peak (R16, R21, R22, R31, R97, R103). -/
def Obligations.PassesStartAndEnd : Prop :=
  (∀ (s : State) (v : Volume) (plan : Plan),
      let takes := s.spu.staged.isSome && (decide (s.csq.scope = some .continuous) || s.spu.active.isNone)
      s.volume = some v → (if takes then s.spu.staged else s.spu.active) = some plan →
      let u := if takes then
          setCond .planTaken { s with spu := { s.spu with active := some plan, staged := none } }
        else s
      let opened : State :=
        { u with cth := { u.cth with
            tallies := { u.cth.tallies with fired := 0, withheld := 0, passOpen := true } } }
      let detour := decide (1 ≤ v.stack.length)
      let shotBefore (ref : SideRef) : Bool := decide (1 ≤ ((sideAt v ref).map (·.shots)).getD 0)
      let blank : CameraShot := { triggered := false, frame := none, late := false, noFrame := false }
      let pass (i : Nat) (step : ShotStep) : Pass :=
        { plan := plan, index := i, step := step, detour := detour
          unflattened := decide (s.lmn.platenDown ≠ some true), unsettled := s.csq.unsettled
          leftSide := leftSide v, rightSide := rightSide v
          leftTally :=
            { before := (plan.shots.any fun x => !detour && x.cameras != .right) && shotBefore (leftSide v)
              shot := false, withheld := false, fault := false }
          rightTally :=
            { before := (plan.shots.any fun x => x.cameras != .left) && shotBefore (rightSide v)
              shot := false, withheld := false, fault := false }
          shot := { lit := Eight.fill false, lampFault := false, motion := false, left := blank,
                    right := blank, onTime := 0, doseLeft := 0, doseRight := 0, predicted := none } }
      (∀ i, plan.shots.findIdx? (fun x => !(detour && x.cameras == .left)) = some i →
        startPass s = { opened with spu := { opened.spu with pass := some (pass i .toBegin) } }) ∧
      (plan.shots.findIdx? (fun x => !(detour && x.cameras == .left)) = none →
        startPass s = completePass (pass 0 .between) opened)) ∧
  (∀ (p : Pass) (s : State),
      let close (ref : SideRef) (t : Tally) (v : Volume) : Volume :=
        if t.shot then
          modSide ref (fun r =>
            { r with
              capture := if t.withheld then .withheld else if t.fault then .flagged else .captured
              retakes := if t.before ∧ r.retakes < 255 then r.retakes + 1 else r.retakes }) v
        else v
      let closed := closePassScope { s with
        volume := s.volume.map fun v => close p.rightSide p.rightTally (close p.leftSide p.leftTally v)
        spu := { s.spu with pass := none } }
      let settled : State := { closed with csq := { closed.csq with unsettled := false } }
      closePass p s = closed ∧
      (s.spu.pass = some p → abandonPass s = closed) ∧
      (s.spu.pass = none → abandonPass s = s) ∧
      completePass p s =
        if s.csq.scope = some .continuous then openingCompletion settled
        else
          match s.csq.setAside with
          | some a => enterHeld a.reasons a.point
              { settled with csq := { settled.csq with scope := some .continuous, setAside := none } }
          | none => endRun settled) ∧
  ((∀ (v : Volume) (k : Nat), v.stack = [] → v.position = .opening k →
      underlying v = k ∧ leftSide v = .leaf k .verso ∧ rightSide v = .leaf (k + 1) .recto) ∧
    (∀ (v : Volume) (k f i : Nat), v.stack.getLast? = some (.opening k) → v.position = .insert f i →
      underlying v = k ∧ leftSide v = .leaf k .verso ∧ rightSide v = .insert f i) ∧
    (∀ s : State, levelNow s =
      match s.volume with
      | some v => v.stack.length
      | none => 0) ∧
    (∀ (v : Volume) (n : Nat) (f : SideRecord → SideRecord),
      sideAt v (.leaf n .recto) = v.leaves[n]?.bind (fun l => l.recto) ∧
      sideAt v (.leaf n .verso) = v.leaves[n]?.bind (fun l => l.verso) ∧
      modSide (.leaf n .recto) f v =
        { v with leaves := v.leaves.modify n fun l => { l with recto := l.recto.map f } } ∧
      modSide (.leaf n .verso) f v =
        { v with leaves := v.leaves.modify n fun l => { l with verso := l.verso.map f } }) ∧
    (∀ (v : Volume) (k i : Nat) (f : SideRecord → SideRecord),
      match v.frames.find? (fun x => decide (x.ordinal = k)) with
      | some x => poolIndex v k i = some (x.firstPool + i) ∧
          sideAt v (.insert k i) = v.pool[x.firstPool + i]? ∧
          modSide (.insert k i) f v = { v with pool := v.pool.modify (x.firstPool + i) f }
      | none => poolIndex v k i = none ∧ sideAt v (.insert k i) = none ∧ modSide (.insert k i) f v = v) ∧
    (∀ (v : Volume) (left right : SideRef) (dl dr : Nat),
      doseAt v left = ((sideAt v left).map fun r => r.dose).getD 0 ∧
      postDose left right dl dr v =
        let w := modSide right (fun r => { r with dose := r.dose + dr })
          (modSide left (fun r => { r with dose := r.dose + dl }) v)
        { w with
          accumulator := v.accumulator + (dl + dr)
          peak := max v.peak (max (doseAt w left) (doseAt w right)) }))

/-- The beginning of a shot once the holding slot is empty: its prediction where every camera it uses is confirmed
ready, and else a ready wait; the RESUME of a hold at READY_CHECK makes the same check. The expiry of that wait:
CAMERA_NOT_READY and a hold at READY_CHECK. The trigger: a pulse of 100 µs, restarted where an earlier one still
stands by the model's choice (log 43), and a pending exposure at each camera the shot uses; a trigger that falls at
the end of the flash is no event of its own but part of the flash's expiry. The end of a pulse: its output off. The
time left to each expiry passes first (log 2), and none has an effect where nothing stands for it (R67, R111, R112,
R114; log 3). -/
def Obligations.ShotsBeginAndTrigger : Prop :=
  ∀ s : State,
    let due := s.csq.runState = .running ∧ s.rq.holding = none ∧
      ∃ p, s.spu.pass = some p ∧ p.step = .toBegin
    let usesLeft (p : Pass) (x : Shot) : Bool := !p.detour && x.cameras != .right
    let usesRight (x : Shot) : Bool := x.cameras != .left
    let waits := ∃ p t, s.spu.pass = some p ∧ p.step = .readyWait t
    let counts := ∃ p t, s.spu.pass = some p ∧ p.step = .flash (some t)
    let pulse : Option Timer := some { figure := 100, left := 100 }
    let run (n : Nat) (t : Option Timer) : Option Timer :=
      if t.any (fun x => decide (x.left ≤ n)) then none else t.map fun x => { x with left := x.left - n }
    let check (t : State) : State :=
      match t.spu.pass with
      | none => t
      | some p =>
        match p.plan.shots[p.index]? with
        | none => t
        | some x =>
          if (usesLeft p x = true → t.lmn.readyLeft = some true) ∧
              (usesRight x = true → t.lmn.readyRight = some true) then predictShot x t
          else { t with spu := { t.spu with pass := some { p with
            step := .readyWait { figure := t.settings.readyWait * 1000
                                 left := t.settings.readyWait * 1000 } } } }
    let passed (n : Nat) : State :=
      let u := elapse n s
      { u with spu := { u.spu with
        left := { s.spu.left with trig := run n s.spu.left.trig }
        right := { s.spu.right with trig := run n s.spu.right.trig } } }
    (¬ due → exec .shotBegin s = .next (finish s s)) ∧
    (due → exec .shotBegin s = .next (finish s (check s))) ∧
    readyCheck s = check s ∧
    (∀ p, shotAt p = p.plan.shots[p.index]?) ∧
    (¬ waits → exec .readyWaitExpiry s = .next (finish s s)) ∧
    (∀ p t, s.spu.pass = some p → p.step = .readyWait t →
      let u := elapse t.left s
      exec .readyWaitExpiry s = .next (finish s
        (enterHeld { s.csq.reasons with camera := true } .readyCheck (setCond .cameraNotReady
          { u with spu := { u.spu with pass := some { p with step := .between } } })))) ∧
    (¬ counts → exec .triggerTimerExpiry s = .next (finish s s)) ∧
    (∀ p t, s.spu.pass = some p → p.step = .flash (some t) →
      (∀ f, s.light = .flash f → f.timer.figure ≠ t.figure) →
      exec .triggerTimerExpiry s = .next (finish s (trigger (elapse t.left s)))) ∧
    (∀ p t f, s.spu.pass = some p → p.step = .flash (some t) → s.light = .flash f →
      f.timer.figure = t.figure → exec .triggerTimerExpiry s = exec .flashTimerExpiry s) ∧
    (∀ p x, s.spu.pass = some p → shotAt p = some x →
      trigger s = { s with spu := { s.spu with
        pass := some { p with
          step := .flash none
          shot := { p.shot with
            left := { p.shot.left with triggered := p.shot.left.triggered || usesLeft p x }
            right := { p.shot.right with triggered := p.shot.right.triggered || usesRight x } } }
        left := if usesLeft p x then { s.spu.left with pending := true, trig := pulse } else s.spu.left
        right := if usesRight x then { s.spu.right with pending := true, trig := pulse }
          else s.spu.right } }) ∧
    (s.spu.left.trig = none → s.spu.right.trig = none →
      exec .trigPulseEnd s = .next (finish s s)) ∧
    (∀ a, s.spu.left.trig = some a → (∀ b, s.spu.right.trig = some b → a.left ≤ b.left) →
      exec .trigPulseEnd s = .next (finish s (passed a.left))) ∧
    (∀ b, s.spu.right.trig = some b → (∀ a, s.spu.left.trig = some a → b.left ≤ a.left) →
      exec .trigPulseEnd s = .next (finish s (passed b.left)))

/-- A shot that is predicted fires where both tests hold, and is withheld otherwise. One that fires is counted,
lights its lit set for the effective on-time, and triggers after its delay; one that is withheld sets DOSE_WITHHELD,
is counted, lights nothing and completes with its predicted doses (R81, R82, R84, R95, R96, R113, R114). -/
def Obligations.ShotsArePredicted : Prop :=
  ∀ (s : State) (v : Volume) (p : Pass) (x : Shot),
    s.volume = some v → s.spu.pass = some p → shotAt p = some x →
    let would := s.settings.calibration.zip
      (fun (c : Calibration) d =>
        c.enabled && decide (0 < d) && !(decide (1 ≤ levelNow s) && c.coverage == .left)) x.drives
    let lit := would.zip (fun b (f : Option Bool) => b && !(f == some true)) s.lmn.lamps
    let dropped := would.zip (fun b (f : Option Bool) => b && f == some true) s.lmn.lamps
    let onTime := effectiveOnTime lit x.onTime s
    let pl := doseOf (sideRate .left lit x.drives s) onTime
    let pr := doseOf (sideRate .right lit x.drives s) onTime
    let shot : ShotInHand := { p.shot with lit := lit, lampFault := dropped.any id }
    let faulted := if dropped.any id then setCond .lampFault s else s
    let prep : State := { faulted with spu := { faulted.spu with pass := some { p with shot := shot } } }
    let fires := (pl = 0 ∨ doseAt v (leftSide v) + pl ≤ v.sideCeiling) ∧
      (pr = 0 ∨ doseAt v (rightSide v) + pr ≤ v.sideCeiling) ∧
      v.accumulator + (pl + pr) ≤ v.volumeCeiling
    let lighted : State :=
      { event .shotsFired
          { prep with volume := some { v with fired := if v.fired < 4294967295 then v.fired + 1 else v.fired } }
        with light := .flash { lit := lit, drives := x.drives,
                               timer := { figure := onTime, left := onTime } } }
    let delay := min x.delay onTime
    (fires → 0 < delay →
      predictShot x s = { lighted with spu := { lighted.spu with
        pass := some { p with shot := shot, step := .flash (some { figure := delay, left := delay }) } } }) ∧
    (fires → delay = 0 → predictShot x s = trigger lighted) ∧
    (¬ fires →
      let counted := event .shotsWithheld (setCond .doseWithheld
        { prep with
          volume := some { v with withheld := if v.withheld < 4294967295 then v.withheld + 1 else v.withheld } })
      predictShot x s = completeShot { counted with spu := { counted.spu with
        pass := some { p with shot := { shot with predicted := some (pl, pr) } } } })

/-- The end of a flash by its timer: a trigger that falls with it comes first, the light goes dark, the dose of the
flash's figure is posted to the two sides and noted for the record, and with an exposure pending the frame grace
starts, or expires at once where it is 0; else the shot completes. The expiry of the grace marks each camera still
pending NO_FRAME and completes the shot. The time left to each passes first, also over a nearer trigger timer, which
is the model's choice (log 2), and neither has an effect where nothing stands for it (R82, R83, R97, R114, R115; log
3). -/
def Obligations.FlashesAndGracesEnd : Prop :=
  ∀ s : State,
    let grace := ∃ p t, s.spu.pass = some p ∧ p.step = .grace t
    let missed (u : State) : State :=
      let l := u.spu.left.pending
      let r := u.spu.right.pending
      { u with spu := { u.spu with
        left := { u.spu.left with pending := false }, right := { u.spu.right with pending := false }
        pass := u.spu.pass.map fun p => { p with shot := { p.shot with
          left := { p.shot.left with noFrame := p.shot.left.noFrame || l }
          right := { p.shot.right with noFrame := p.shot.right.noFrame || r } } } } }
    (¬ grace → exec .frameGraceExpiry s = .next (finish s s)) ∧
    (∀ p t, s.spu.pass = some p → p.step = .grace t →
      exec .frameGraceExpiry s = .next (finish s (completeShot (missed (elapse t.left s))))) ∧
    ((∀ f, s.light ≠ .flash f) → exec .flashTimerExpiry s = .next (finish s s)) ∧
    (∀ f, s.light = .flash f →
      let u := elapse f.timer.left s
      let falls := s.spu.pass.any fun p =>
        match p.step with
        | .flash (some _) => true
        | _ => false
      let w := if falls then trigger u else u
      let dl := doseOf (sideRate .left f.lit f.drives s) f.timer.figure
      let dr := doseOf (sideRate .right f.lit f.drives s) f.timer.figure
      let dark : State := { w with
        light := .dark
        volume := s.volume.map fun v => postDose (leftSide v) (rightSide v) dl dr v
        spu := { w.spu with pass := w.spu.pass.map fun p => { p with shot := { p.shot with
          onTime := f.timer.figure, doseLeft := dl, doseRight := dr } } } }
      let ms := s.settings.frameGrace
      exec .flashTimerExpiry s = .next (finish s
        (if dark.spu.left.pending || dark.spu.right.pending then
          if ms = 0 then completeShot (missed dark)
          else { dark with spu := { dark.spu with pass := dark.spu.pass.map fun p =>
            { p with step := .grace { figure := ms * 1000, left := ms * 1000 } } } }
        else completeShot dark)))

/-- The bits of a SHOT record's status flags, by what the shot came to (R117, section 10.6): the camera flags of a
camera only where the shot uses it, and RETAKE where a side in play was shot before the pass. The content of a SHOT
record: plan id, index, tag, level and position, the cameras triggered and their frames, the on-time and doses, the
predictions of a withheld shot, and each half's side: in play where the shot uses its camera, with the label of a
leaf side derived then; exposed where a lit channel reaches it, and for the left half at level 1 to 4; absent
otherwise (R10, R32, R117). A shot that completes hands over its SHOT record and counts the sides in play, each with
one shot more, to at most 255, and the record's number; the sides' tallies note a withheld shot and a fault flag;
and the run holds at AFTER_SHOT for a withheld shot of policy HOLD, a lamp fault or step mode SHOT, or goes on with
the next shot that a detour does not skip, or completes the pass, as the RESUME of such a hold does (R30, R64, R67,
R110, R117, R118). -/
def Obligations.ShotsComplete : Prop :=
  (∀ (p : Pass) (cameras : Coverage) (ended : ShotEnd),
      let f := shotFlags p cameras ended
      let left := !p.detour && cameras != .right
      let right := cameras != .left
      f.getLsbD 0 = p.shot.predicted.isSome ∧ f.getLsbD 1 = decide (ended = .aborted) ∧
      f.getLsbD 2 = decide (ended = .guard) ∧
      f.getLsbD 3 = (left && p.shot.left.noFrame) ∧ f.getLsbD 4 = (right && p.shot.right.noFrame) ∧
      f.getLsbD 5 = (left && p.shot.left.late) ∧ f.getLsbD 6 = (right && p.shot.right.late) ∧
      f.getLsbD 7 = p.shot.lampFault ∧ f.getLsbD 8 = p.unsettled ∧ f.getLsbD 9 = p.shot.motion ∧
      f.getLsbD 10 = p.unflattened ∧
      f.getLsbD 11 = ((left && p.leftTally.before) || (right && p.rightTally.before)) ∧
      ∀ i, 12 ≤ i → f.getLsbD i = false) ∧
  (∀ (v : Volume) (p : Pass) (x : Shot) (s : State),
      let name (exposed : Bool) (ref : SideRef) : SideId :=
        match ref with
        | .leaf n side => .leaf exposed n side (labelOf v n side)
        | .insert f i => .insert f i
      let reached (other : Coverage) : Bool := (List.finRange 8).any fun n =>
        p.shot.lit.get n && (s.settings.calibration.get n).coverage != other
      shotRecord v p x s =
        { planId := p.plan.id, index := p.index, tag := x.tag, level := v.stack.length, position := v.position
          left :=
            if p.detour = false ∧ x.cameras ≠ .right then name false p.leftSide
            else if reached .right || p.detour then name true p.leftSide else .absent
          right :=
            if x.cameras ≠ .left then name false p.rightSide
            else if reached .left then name true p.rightSide else .absent
          triggeredLeft := p.shot.left.triggered, triggeredRight := p.shot.right.triggered
          frameLeft := p.shot.left.frame, frameRight := p.shot.right.frame, onTime := p.shot.onTime
          doseLeft := p.shot.doseLeft, doseRight := p.shot.doseRight, predicted := p.shot.predicted }) ∧
  ((∀ (s : State) (v : Volume) (p : Pass) (x : Shot),
      s.volume = some v → s.spu.pass = some p → shotAt p = some x →
      let flags := shotFlags p x.cameras .completed
      let left := !p.detour && x.cameras != .right
      let right := x.cameras != .left
      let count (inPlay : Bool) (ref : SideRef) (w : Volume) : Volume :=
        if inPlay then
          modSide ref (fun r => { r with shots := if r.shots < 255 then r.shots + 1 else r.shots
                                         lastRecord := some s.rq.nextNumber }) w
        else w
      let note (inPlay fault : Bool) (t : Tally) : Tally :=
        if inPlay then { t with shot := true, withheld := t.withheld || p.shot.predicted.isSome
                                fault := t.fault || fault }
        else t
      let common := flags.getLsbD 1 || flags.getLsbD 2 || flags.getLsbD 7 || flags.getLsbD 8 ||
        flags.getLsbD 9 || flags.getLsbD 10
      let noted : Pass := { p with
        step := .between
        leftTally := note left (common || flags.getLsbD 3 || flags.getLsbD 5) p.leftTally
        rightTally := note right (common || flags.getLsbD 4 || flags.getLsbD 6) p.rightTally }
      let h := handOver flags (.shot (shotRecord v p x s)) s
      let u : State := { h with
        volume := some (count right p.rightSide (count left p.leftSide v))
        spu := { h.spu with pass := some noted } }
      let dose := p.shot.predicted.isSome && x.policy == .hold
      let step := decide (s.csq.stepMode = .shot)
      let r := s.csq.reasons
      completeShot s =
        if dose || p.shot.lampFault || step then
          enterHeld { r with step := r.step || step, dose := r.dose || dose,
                             lamp := r.lamp || p.shot.lampFault } .afterShot u
        else
          match (p.plan.shots.zipIdx.find? fun xi =>
              decide (p.index < xi.2) && !(p.detour && xi.1.cameras == .left)).map (·.2) with
          | some i => { u with spu := { u.spu with
              pass := some { noted with index := i, step := .toBegin, shot := ShotInHand.blank } } }
          | none => completePass noted u) ∧
    (∀ s : State, s.spu.pass = none → nextShot s = s) ∧
    (∀ (s : State) (p : Pass), s.spu.pass = some p →
      let due := p.plan.shots.zipIdx.find? fun xi =>
        decide (p.index < xi.2) && !(p.detour && xi.1.cameras == .left)
      nextShot s =
        match due with
        | some xi => { s with spu := { s.spu with
            pass := some { p with index := xi.2, step := .toBegin, shot := ShotInHand.blank } } }
        | none => completePass p s))

/-- What an ABORT or a trip does to the capture at hand: TRIG outputs are withdrawn, preview ends with its dose
posted, every channel goes dark, and a pass is abandoned. A shot in flight, and only that, is recorded first, once,
after the records held before, as SHOT with the flag of what ended it: a flash that is lit goes dark with the dose
of the time it was lit posted to the two sides and the volume, each camera of the set that has delivered no frame is
marked NO_FRAME and stops being pending, and the sides in play are counted as a completed shot counts them (R70,
R74, R88, R97, R117, R118, R120). -/
def Obligations.CaptureIsStopped : Prop :=
  ∀ (ended : ShotEnd) (s : State),
    let t := stopCapture ended s
    let stop (u : State) : State :=
      let e := endPreview { u with spu := { u.spu with
        left := { u.spu.left with trig := none }, right := { u.spu.right with trig := none } } }
      abandonPass { e with light := .dark }
    let flies (p : Pass) : Prop := (∃ f, p.step = .flash f) ∨ ∃ f, p.step = .grace f
    (t.light = .dark ∧ t.spu.pass = none ∧ t.spu.left.trig = none ∧ t.spu.right.trig = none ∧
      t.spu.active = s.spu.active ∧ t.spu.staged = s.spu.staged ∧ t.csq = s.csq ∧
      t.settings = s.settings) ∧
    ((∀ p, s.spu.pass = some p → ¬ flies p) → t = stop s ∧ t.rq = s.rq) ∧
    (∀ p x v, s.spu.pass = some p → shotAt p = some x → s.volume = some v → flies p →
      let left := !p.detour && x.cameras != .right
      let right := x.cameras != .left
      let missed (inPlay : Bool) (c : CameraShot) : Bool := inPlay && c.frame.isNone
      let lit : Option Flash :=
        match s.light with
        | .flash f => some f
        | _ => none
      let spent (f : Flash) : Nat := f.timer.figure - f.timer.left
      let dose (h : Half) (f : Flash) : Nat := doseOf (sideRate h f.lit f.drives s) (spent f)
      let dosed : Volume :=
        match lit with
        | some f => postDose (leftSide v) (rightSide v) (dose .left f) (dose .right f) v
        | none => v
      let shot : ShotInHand := { p.shot with
        onTime := (lit.map spent).getD p.shot.onTime
        doseLeft := (lit.map (dose .left)).getD p.shot.doseLeft
        doseRight := (lit.map (dose .right)).getD p.shot.doseRight
        left := { p.shot.left with noFrame := p.shot.left.noFrame || missed left p.shot.left }
        right := { p.shot.right with noFrame := p.shot.right.noFrame || missed right p.shot.right } }
      let dark : State := { s with
        volume := some dosed
        light := if lit.isSome then .dark else s.light
        spu := { s.spu with
          left := { s.spu.left with pending := s.spu.left.pending && !missed left p.shot.left }
          right := { s.spu.right with pending := s.spu.right.pending && !missed right p.shot.right }
          pass := some { p with shot := shot } } }
      let flags := shotFlags { p with shot := shot } x.cameras ended
      let count (inPlay : Bool) (ref : SideRef) (w : Volume) : Volume :=
        if inPlay then
          modSide ref (fun r => { r with shots := if r.shots < 255 then r.shots + 1 else r.shots
                                         lastRecord := some s.rq.nextNumber }) w
        else w
      let note (inPlay fault : Bool) (t : Tally) : Tally :=
        if inPlay then { t with shot := true, withheld := t.withheld || p.shot.predicted.isSome
                                fault := t.fault || fault }
        else t
      let common := flags.getLsbD 1 || flags.getLsbD 2 || flags.getLsbD 7 || flags.getLsbD 8 ||
        flags.getLsbD 9 || flags.getLsbD 10
      let h := handOver flags (.shot (shotRecord dosed { p with shot := shot } x s)) dark
      t = stop { h with
        volume := some (count right p.rightSide (count left p.leftSide dosed))
        spu := { h.spu with pass := some { p with
          step := .between, shot := shot
          leftTally := note left (common || flags.getLsbD 3 || flags.getLsbD 5) p.leftTally
          rightTally := note right (common || flags.getLsbD 4 || flags.getLsbD 6) p.rightTally } } }) ∧
    (∀ p x v, s.spu.pass = some p → shotAt p = some x → s.volume = some v → SlotKept s → flies p →
      ∃ r, heldRecords t.rq = heldRecords s.rq ++ [r] ∧ r.number = s.rq.nextNumber ∧
        r.flags.getLsbD 1 = decide (ended = .aborted) ∧ r.flags.getLsbD 2 = decide (ended = .guard) ∧
        ∃ body, r.body = .shot body ∧ body.planId = p.plan.id ∧ body.index = p.index ∧
          body.tag = x.tag ∧ body.position = v.position ∧
          (∀ f, s.light = .flash f → body.onTime = f.timer.figure - f.timer.left ∧
            body.doseLeft = doseOf (sideRate .left f.lit f.drives s) (f.timer.figure - f.timer.left) ∧
            body.doseRight = doseOf (sideRate .right f.lit f.drives s) (f.timer.figure - f.timer.left)))

/-! ### The other events -/

/-- A starting level stands only where an input has none yet, and is no change; pedal releases, deasserted feedback,
a cleared curtain and a cleared lamp fault change their level alone (R35, R36, R72, R84; log 9). Each confirmed
feedback input takes its level and ends the phase that waits on it, carry-end CARRY or REVERSE_CARRY; in every other
phase its level alone changes (R35, R36, R40, R48 to R51; log 9). -/
def Obligations.LevelsAreTaken : Prop :=
  (∀ s : State,
      let l := s.lmn
      let start (old : Option Bool) (b : Bool) : Option Bool := if old = none then some b else old
      let set (x : Lmn) : Host.Outcome State Fault Refusal := .next (finish s { s with lmn := x })
      (∀ b, exec (.startingLevel .pedal b) s = set { l with pedal := start l.pedal b } ∧
        exec (.startingLevel (.feedback .lift) b) s = set { l with lift := start l.lift b } ∧
        exec (.startingLevel (.feedback .grip) b) s = set { l with grip := start l.grip b } ∧
        exec (.startingLevel (.feedback .carryEnd) b) s = set { l with carryEnd := start l.carryEnd b } ∧
        exec (.startingLevel (.feedback .release) b) s = set { l with release := start l.release b } ∧
        exec (.startingLevel (.feedback .park) b) s = set { l with park := start l.park b } ∧
        exec (.startingLevel (.feedback .platenUp) b) s = set { l with platenUp := start l.platenUp b } ∧
        exec (.startingLevel (.feedback .platenDown) b) s =
          set { l with platenDown := start l.platenDown b } ∧
        exec (.startingLevel (.pageMotion .left) b) s = set { l with motionLeft := start l.motionLeft b } ∧
        exec (.startingLevel (.pageMotion .right) b) s =
          set { l with motionRight := start l.motionRight b } ∧
        exec (.startingLevel .lightCurtain b) s = set { l with curtain := start l.curtain b } ∧
        exec (.startingLevel (.cameraReady .left) b) s = set { l with readyLeft := start l.readyLeft b } ∧
        exec (.startingLevel (.cameraReady .right) b) s = set { l with readyRight := start l.readyRight b } ∧
        ∀ n, exec (.startingLevel (.lampFault n) b) s =
          set { l with lamps := l.lamps.set n (start (l.lamps.get n) b) }) ∧
      exec .pedalRelease s = set { l with pedal := some false } ∧
      exec .lightCurtainCleared s = set { l with curtain := some false } ∧
      (∀ n, exec (.lampFaultCleared n) s = set { l with lamps := l.lamps.set n (some false) }) ∧
      exec (.feedbackInputDeasserted .lift) s = set { l with lift := some false } ∧
      exec (.feedbackInputDeasserted .grip) s = set { l with grip := some false } ∧
      exec (.feedbackInputDeasserted .carryEnd) s = set { l with carryEnd := some false } ∧
      exec (.feedbackInputDeasserted .release) s = set { l with release := some false } ∧
      exec (.feedbackInputDeasserted .park) s = set { l with park := some false } ∧
      exec (.feedbackInputDeasserted .platenUp) s = set { l with platenUp := some false } ∧
      exec (.feedbackInputDeasserted .platenDown) s = set { l with platenDown := some false }) ∧
  (∀ (g : Gauge) (s : State),
      let l := s.lmn
      let ends (p : Phase) (x : Lmn) (next : State → State) : Host.Outcome State Fault Refusal :=
        .next (finish s (if s.csq.phase = p then next { s with lmn := x } else { s with lmn := x }))
      exec (.platenUpConfirmed g) s = ends .platenUp { l with platenUp := some true } (platenUpDone g) ∧
      exec (.liftConfirmed g) s = ends .lift { l with lift := some true } (enterGrip g) ∧
      exec (.gripConfirmed g) s = ends .grip { l with grip := some true } (enterCarry g) ∧
      exec .releaseConfirmed s = ends .release { l with release := some true } releaseDone ∧
      exec .parkConfirmed s = ends .returning { l with park := some true } returnDone ∧
      exec .platenDownConfirmed s = ends .platenDown { l with platenDown := some true } platenDownDone ∧
      exec (.carryEndConfirmed g) s = .next (finish s
        (let u : State := { s with lmn := { l with carryEnd := some true } }
         if s.csq.phase = .carry then carryDone g u
         else if s.csq.phase = .reverseCarry then enterRelease u else u)))

/-- What an input's change does beside its level. A pedal press is the hand confirmation in AWAIT_HAND, an ADVANCE
in ARMED below a last insert side, and else nothing. A page-motion change restarts SETTLE for a full interval,
counted, or marks the shot MOTION while a flash is lit, or does nothing. A camera that becomes ready satisfies a
ready wait whose every camera is then ready. An intrusion that does not trip clears read-seen under a set latch. A
lamp fault sets LAMP_FAULT, and where preview lights the channel it does so at a boundary of preview periods that
takes the channel out (R27, R36, R56 to R58, R72, R75, R84, R89, R90, R112, R114; log 9, log 21; the settle restarts
stop at 65535 by the model's choice, log 17). An exposure-end pulse adds 1 to the frame count of its port, modulo
2^32, and is reported. On a pending exposure it gives the shot its frame, late in GRACE, where the shot completes
once no camera is pending; on any other it is a stray frame, with STRAY_FRAME and its event (R114 to R116). -/
def Obligations.InputsAreHeeded : Prop :=
  (∀ s : State,
      let running := s.csq.runState = .running
      let pressed : State := { s with lmn := { s.lmn with pedal := some true } }
      let advance : Option Position := s.volume.bind fun v =>
        match v.position with
        | .opening _ => none
        | .insert f i =>
          match v.frames.find? (·.ordinal == f) with
          | some fr => if i + 1 < fr.sides then some (.insert f (i + 1)) else none
          | none => none
      (exec .pedalPress s = .next (finish s (
        if running ∧ s.csq.phase = .awaitHand then handConfirm pressed
        else if s.csq.runState = .armed then
          match advance with
          | some p => atBoundary
              (fun t => { t with volume := t.volume.map fun v => { v with position := p } }) pressed
          | none => pressed
        else pressed))) ∧
      (∀ (half : Half) (b : Bool),
        let u : State := { s with lmn :=
          match half with
          | .left => { s.lmn with motionLeft := some b }
          | .right => { s.lmn with motionRight := some b } }
        exec (.pageMotionChange half b) s = .next (finish s (
          if s.csq.phase = .settle then
            event .settleRestarts { u with csq := { s.csq with
              settleTimer := s.csq.settleTimer.map fun t => { figure := t.figure, left := t.figure }
              settleRestarts :=
                if s.csq.settleRestarts < 65535 then s.csq.settleRestarts + 1 else s.csq.settleRestarts } }
          else
            match s.light with
            | .flash _ => { u with spu := { s.spu with
                pass := s.spu.pass.map fun p => { p with shot := { p.shot with motion := true } } } }
            | _ => u))) ∧
      (∀ (camera : Half) (b : Bool),
        let u : State := { s with lmn :=
          match camera with
          | .left => { s.lmn with readyLeft := some b }
          | .right => { s.lmn with readyRight := some b } }
        let ready (p : Pass) (x : Shot) : Bool :=
          (p.detour || x.cameras == .right || u.lmn.readyLeft == some true) &&
            (x.cameras == .left || u.lmn.readyRight == some true)
        let heard : State :=
          match s.spu.pass with
          | none => u
          | some p =>
            match p.step, shotAt p with
            | .readyWait _, some x => if b && ready p x then predictShot x u else u
            | _, _ => u
        exec (.cameraReadyChange camera b) s = .next (finish s heard)) ∧
      (tripsNow s = false →
        exec .lightCurtainIntruded s = .next (finish s { s with
          lmn := { s.lmn with curtain := some true }
          grd := { s.grd with readSeen := s.grd.readSeen && !s.grd.latch } })) ∧
      (∀ n : Fin 8,
        let change (t : State) : State :=
          setCond .lampFault { t with lmn := { t.lmn with lamps := t.lmn.lamps.set n (some true) } }
        let lit := match s.light with
          | .preview p => p.lit.get n
          | _ => false
        exec (.lampFaultAsserted n) s = .next (finish s
          (if lit then boundary (fun lights => lights.set n false) change s else change s)))) ∧
  (∀ (s : State) (half : Half),
      let port := match half with
        | .left => s.spu.left
        | .right => s.spu.right
      let count := (port.frames + 1) % 4294967296
      let set (p : Port) (u : State) : State :=
        match half with
        | .left => { u with spu := { u.spu with left := p } }
        | .right => { u with spu := { u.spu with right := p } }
      let counted := event (match half with
        | .left => .framesLeft
        | .right => .framesRight) (set { port with frames := count } s)
      let grace := s.spu.pass.any fun p =>
        match p.step with
        | .grace _ => true
        | _ => false
      let got (c : CameraShot) : CameraShot := { c with frame := some count, late := grace }
      let note (p : Pass) : Pass :=
        match half with
        | .left => { p with shot := { p.shot with left := got p.shot.left } }
        | .right => { p with shot := { p.shot with right := got p.shot.right } }
      let closed : State := set { port with frames := count, pending := false } counted
      let noted : State := { closed with spu := { closed.spu with pass := s.spu.pass.map note } }
      exec (.exposureEndPulse half) s = .next (finish s (
        if port.pending then
          if grace && !(noted.spu.left.pending || noted.spu.right.pending) then completeShot noted else noted
        else event .strayFrames (setCond .strayFrame counted))))

/-- The preview timer's expiry ends preview with its whole period posted, and sets DOSE_CEILING at a cut time or
PREVIEW_LIMIT at the limit; the stale timer's sets QUEUE_STALE and stops it; the time base at its limit becomes 0; a
counter that counts time reaches its next millisecond. Each lets the time to that moment pass, and none has an
effect where nothing stands for it (R87, R133, R135, R139; log 2, log 3). -/
def Obligations.OtherTimersExpire : Prop :=
  ∀ s : State,
    (∀ p, s.light = .preview p →
      let u := elapse p.timer.left s
      exec .previewTimerExpiry s = .next (finish s
        (setCond (if p.cutExpiry then .doseCeiling else .previewLimit)
          (edge .previewOn false { u with
            light := .dark
            volume := s.volume.map fun v => postDose (leftSide v) (rightSide v)
              (doseOf (sideRate .left p.lit p.drives s) p.timer.figure)
              (doseOf (sideRate .right p.lit p.drives s) p.timer.figure) v })))) ∧
    ((∀ p, s.light ≠ .preview p) → exec .previewTimerExpiry s = .next (finish s s)) ∧
    (∀ t, s.rq.staleTimer = some t →
      let u := elapse t.left s
      exec .staleTimerExpiry s = .next (finish s
        (setCond .queueStale { u with rq := { s.rq with staleTimer := none } }))) ∧
    (s.rq.staleTimer = none → exec .staleTimerExpiry s = .next (finish s s)) ∧
    (s.cth.timeBase < 2 ^ 48 → ∃ t, exec .timeBaseWrap s = .next t ∧ t.cth.timeBase = 0 ∧
      t = finish s (elapse (2 ^ 48 - s.cth.timeBase) s)) ∧
    (∀ n : CounterName,
      let c := match n with
        | .a => s.cth.a
        | .b => s.cth.b
      let stands : Option Bool :=
        match c.event with
        | .running => some (decide (s.csq.runState = .running))
        | .held => some (decide (s.csq.runState = .held))
        | .queueWait => some (queueWaiting s)
        | .previewOn => some (previewing s)
        | _ => none
      exec (.durationMillisecond n) s = .next (finish s
        (if c.edge = false ∧ stands = some (!c.invert) then elapse (1000 - c.residue) s else s)))

/-- A frame offered: with its CHECK right it goes into an empty slot, or with both occupied is dropped, counted to
at most 65,535, with LINK_ERROR and the drop-seen mark; with its CHECK wrong, or its body longer than 248 bytes, it
is a check error, counted and marked likewise; the receiver hunts either way. A byte is taken as the receiver
stands: SYNC, LEN, or the bytes to CHECK. A partial frame is discarded after its gap, whose time left passes first
(log 2), with no count (R143, R144; a frame given whole while another is in assembly, log 35, and that a timeout
with no gap timer running has no effect, log 3, are the model's choices). -/
def Obligations.FramesAreReceived : Prop :=
  ∀ s : State,
    let up (n : Nat) : Nat := if n < 65535 then n + 1 else n
    let replying := s.lif.tx.any (·.reply)
    let checked (u : State) : State := setCond .linkError { u with lif := { u.lif with
      checkErrors := up u.lif.checkErrors, checkSeen := true
      checkSince := u.lif.checkSince || replying } }
    let dropped (u : State) : State := setCond .linkError { u with lif := { u.lif with
      drops := up u.lif.drops, dropSeen := true, dropSince := u.lif.dropSince || replying } }
    let hunting : State := { s with lif := { s.lif with receiver := .hunting, gap := none } }
    let offered (tag kind : Byte) (body : List Byte) (check : BitVec 16) : State :=
      if check ≠ frameCheck tag kind body then checked hunting
      else if 2 ≤ s.lif.slots.length then dropped hunting
      else serveLength { hunting with lif := { hunting.lif with
        slots := s.lif.slots ++ [{ tag := tag, kind := kind, body := body }] } }
    let assembling (r : Receiver) : State := { s with lif := { s.lif with
      receiver := r, gap := some { figure := 20001, left := 20001 } } }
    (∀ (tag kind : Byte) (body : List Byte) (check : BitVec 16),
      exec (.frameReceived tag kind body check) s = .next (finish s
        (if 248 < body.length then checked hunting else offered tag kind body check))) ∧
    (∀ b : Byte, exec (.byteReceived b) s = .next (finish s (
      match s.lif.receiver with
      | .hunting => if b = 0xA5 then assembling .awaitLen else s
      | .awaitLen =>
        if b.toNat < 2 ∨ 250 < b.toNat then checked hunting else assembling (.collecting b.toNat [])
      | .collecting len bytes =>
        if bytes.length + 1 < len + 2 then assembling (.collecting len (bytes ++ [b]))
        else
          match bytes ++ [b] with
          | tag :: kind :: rest =>
            offered tag kind (rest.take (len - 2)) (.ofNat 16 (match rest.drop (len - 2) with
              | [hi, lo] => hi.toNat * 256 + lo.toNat
              | _ => 0))
          | _ => checked hunting))) ∧
    (s.lif.gap = none → exec .frameTimeout s = .next (finish s s)) ∧
    (∀ t, s.lif.gap = some t →
      let u := elapse t.left s
      exec .frameTimeout s = .next (finish s
        { u with lif := { u.lif with receiver := .hunting, gap := none } }))

/-- A request of a KIND outside the assigned codes is answered UNKNOWN, of KIND 0xFE; a request in the older slot
whose body is the wrong size for its KIND is answered LENGTH when its handling is due. A reply that has been sent
whole leaves the transmitter, its marks are cleared but for what was seen since it began, its slot is freed, and the
wrong size of the next request is answered; where it answered a RESET that takes effect
(`EveryResetLeavesTheResetState`). A notice that has been sent leaves the transmitter. The time left on the line
passes first (log 2). The end of a save, which is taken at any moment (log 27), makes its copies the store's (R144
to R146, R150, R152; log 3, log 6, log 28). -/
def Obligations.RepliesAreSent : Prop :=
  ∀ s : State,
    let answer (d : Decoded) (kind : Byte) (r : Result) (u : State) : State :=
      { u with lif := { u.lif with
        outbox := u.lif.outbox ++ [{ tag := replyTag d u.lif, kind := kind, result := r, content := []
                                     fromSlot := claims d u.lif, resets := false }]
        handled := u.lif.handled || claims d u.lif } }
    (∀ kind, assignedKind kind = false →
      exec (.unknownKind kind) s = .next (finish s (answer (.unknown kind) 0xFE .unknown s))) ∧
    (∀ kind, assignedKind kind = true → exec (.unknownKind kind) s = .next (finish s s)) ∧
    (serveLength s =
      match s.lif.slots with
      | r :: _ =>
        if s.lif.handled = false ∧ s.lif.outbox = [] ∧ decodeRequest r.kind r.body = .badLength then
          answer .badLength (r.kind + 0x80) .length s
        else s
      | [] => s) ∧
    (∀ t r rest, s.lif.tx = some t → t.reply = true → s.lif.outbox = r :: rest →
      let u := elapse t.timer.left s
      let sent : State := { u with lif := { u.lif with
        tx := none, outbox := rest
        slots := if r.fromSlot then s.lif.slots.tail else s.lif.slots
        handled := s.lif.handled && !r.fromSlot
        dropSeen := s.lif.dropSince, checkSeen := s.lif.checkSince, dropSince := false
        checkSince := false } }
      r.resets = false → exec .replySent s = .next (finish s (serveLength sent))) ∧
    (∀ t, s.lif.tx = some t → t.reply = true → s.lif.outbox = [] →
      let u := elapse t.timer.left s
      exec .replySent s = .next (finish s { u with lif := { u.lif with tx := none } })) ∧
    (∀ t, s.lif.tx = some t → t.reply = false →
      let u := elapse t.timer.left s
      exec .noticeSent s = .next (finish s { u with lif := { u.lif with tx := none } }) ∧
      exec .replySent s = .next (finish s s)) ∧
    (∀ t, s.lif.tx = some t → t.reply = true → exec .noticeSent s = .next (finish s s)) ∧
    (s.lif.tx = none → exec .noticeSent s = .next (finish s s) ∧
      exec .replySent s = .next (finish s s)) ∧
    (∀ v, s.sto.save = some v → exec .saveComplete s = .next (finish s
      { s with sto := { s.sto with stored := some v.captured, save := none } })) ∧
    (s.sto.save = none → exec .saveComplete s = .next (finish s s))
end

