-- ==== Sys2Proof/Laws/State.lean ====
section
/-! SUPPORT. What each update of State leaves in each field: true by `rfl`. -/

namespace Sys2Proof.Machine

@[simp] theorem State.setVolume_volume (v : Option Volume) (s : State) : (s.setVolume v).volume = v := rfl
@[simp] theorem State.setVolume_csq (v : Option Volume) (s : State) : (s.setVolume v).csq = s.csq := rfl
@[simp] theorem State.setVolume_grd (v : Option Volume) (s : State) : (s.setVolume v).grd = s.grd := rfl
@[simp] theorem State.setVolume_lmn (v : Option Volume) (s : State) : (s.setVolume v).lmn = s.lmn := rfl
@[simp] theorem State.setVolume_sampling (v : Option Volume) (s : State) : (s.setVolume v).sampling = s.sampling := rfl
@[simp] theorem State.setVolume_light (v : Option Volume) (s : State) : (s.setVolume v).light = s.light := rfl
@[simp] theorem State.setVolume_spu (v : Option Volume) (s : State) : (s.setVolume v).spu = s.spu := rfl
@[simp] theorem State.setVolume_rq (v : Option Volume) (s : State) : (s.setVolume v).rq = s.rq := rfl
@[simp] theorem State.setVolume_cth (v : Option Volume) (s : State) : (s.setVolume v).cth = s.cth := rfl
@[simp] theorem State.setVolume_lif (v : Option Volume) (s : State) : (s.setVolume v).lif = s.lif := rfl
@[simp] theorem State.setVolume_settings (v : Option Volume) (s : State) : (s.setVolume v).settings = s.settings := rfl
@[simp] theorem State.setVolume_sto (v : Option Volume) (s : State) : (s.setVolume v).sto = s.sto := rfl
@[simp] theorem State.setVolume_pending (v : Option Volume) (s : State) : (s.setVolume v).pending = s.pending := rfl
@[simp] theorem State.setVolume_freeReads (v : Option Volume) (s : State) : (s.setVolume v).freeReads = s.freeReads := rfl

@[simp] theorem State.modVolume_volume (f : Volume → Volume) (s : State) : (s.modVolume f).volume = s.volume.map f := rfl
@[simp] theorem State.modVolume_csq (f : Volume → Volume) (s : State) : (s.modVolume f).csq = s.csq := rfl
@[simp] theorem State.modVolume_grd (f : Volume → Volume) (s : State) : (s.modVolume f).grd = s.grd := rfl
@[simp] theorem State.modVolume_lmn (f : Volume → Volume) (s : State) : (s.modVolume f).lmn = s.lmn := rfl
@[simp] theorem State.modVolume_sampling (f : Volume → Volume) (s : State) : (s.modVolume f).sampling = s.sampling := rfl
@[simp] theorem State.modVolume_light (f : Volume → Volume) (s : State) : (s.modVolume f).light = s.light := rfl
@[simp] theorem State.modVolume_spu (f : Volume → Volume) (s : State) : (s.modVolume f).spu = s.spu := rfl
@[simp] theorem State.modVolume_rq (f : Volume → Volume) (s : State) : (s.modVolume f).rq = s.rq := rfl
@[simp] theorem State.modVolume_cth (f : Volume → Volume) (s : State) : (s.modVolume f).cth = s.cth := rfl
@[simp] theorem State.modVolume_lif (f : Volume → Volume) (s : State) : (s.modVolume f).lif = s.lif := rfl
@[simp] theorem State.modVolume_settings (f : Volume → Volume) (s : State) : (s.modVolume f).settings = s.settings := rfl
@[simp] theorem State.modVolume_sto (f : Volume → Volume) (s : State) : (s.modVolume f).sto = s.sto := rfl
@[simp] theorem State.modVolume_pending (f : Volume → Volume) (s : State) : (s.modVolume f).pending = s.pending := rfl
@[simp] theorem State.modVolume_freeReads (f : Volume → Volume) (s : State) : (s.modVolume f).freeReads = s.freeReads := rfl

@[simp] theorem State.modCsq_volume (f : Csq → Csq) (s : State) : (s.modCsq f).volume = s.volume := rfl
@[simp] theorem State.modCsq_csq (f : Csq → Csq) (s : State) : (s.modCsq f).csq = f s.csq := rfl
@[simp] theorem State.modCsq_grd (f : Csq → Csq) (s : State) : (s.modCsq f).grd = s.grd := rfl
@[simp] theorem State.modCsq_lmn (f : Csq → Csq) (s : State) : (s.modCsq f).lmn = s.lmn := rfl
@[simp] theorem State.modCsq_sampling (f : Csq → Csq) (s : State) : (s.modCsq f).sampling = s.sampling := rfl
@[simp] theorem State.modCsq_light (f : Csq → Csq) (s : State) : (s.modCsq f).light = s.light := rfl
@[simp] theorem State.modCsq_spu (f : Csq → Csq) (s : State) : (s.modCsq f).spu = s.spu := rfl
@[simp] theorem State.modCsq_rq (f : Csq → Csq) (s : State) : (s.modCsq f).rq = s.rq := rfl
@[simp] theorem State.modCsq_cth (f : Csq → Csq) (s : State) : (s.modCsq f).cth = s.cth := rfl
@[simp] theorem State.modCsq_lif (f : Csq → Csq) (s : State) : (s.modCsq f).lif = s.lif := rfl
@[simp] theorem State.modCsq_settings (f : Csq → Csq) (s : State) : (s.modCsq f).settings = s.settings := rfl
@[simp] theorem State.modCsq_sto (f : Csq → Csq) (s : State) : (s.modCsq f).sto = s.sto := rfl
@[simp] theorem State.modCsq_pending (f : Csq → Csq) (s : State) : (s.modCsq f).pending = s.pending := rfl
@[simp] theorem State.modCsq_freeReads (f : Csq → Csq) (s : State) : (s.modCsq f).freeReads = s.freeReads := rfl

@[simp] theorem State.modGrd_volume (f : Grd → Grd) (s : State) : (s.modGrd f).volume = s.volume := rfl
@[simp] theorem State.modGrd_csq (f : Grd → Grd) (s : State) : (s.modGrd f).csq = s.csq := rfl
@[simp] theorem State.modGrd_grd (f : Grd → Grd) (s : State) : (s.modGrd f).grd = f s.grd := rfl
@[simp] theorem State.modGrd_lmn (f : Grd → Grd) (s : State) : (s.modGrd f).lmn = s.lmn := rfl
@[simp] theorem State.modGrd_sampling (f : Grd → Grd) (s : State) : (s.modGrd f).sampling = s.sampling := rfl
@[simp] theorem State.modGrd_light (f : Grd → Grd) (s : State) : (s.modGrd f).light = s.light := rfl
@[simp] theorem State.modGrd_spu (f : Grd → Grd) (s : State) : (s.modGrd f).spu = s.spu := rfl
@[simp] theorem State.modGrd_rq (f : Grd → Grd) (s : State) : (s.modGrd f).rq = s.rq := rfl
@[simp] theorem State.modGrd_cth (f : Grd → Grd) (s : State) : (s.modGrd f).cth = s.cth := rfl
@[simp] theorem State.modGrd_lif (f : Grd → Grd) (s : State) : (s.modGrd f).lif = s.lif := rfl
@[simp] theorem State.modGrd_settings (f : Grd → Grd) (s : State) : (s.modGrd f).settings = s.settings := rfl
@[simp] theorem State.modGrd_sto (f : Grd → Grd) (s : State) : (s.modGrd f).sto = s.sto := rfl
@[simp] theorem State.modGrd_pending (f : Grd → Grd) (s : State) : (s.modGrd f).pending = s.pending := rfl
@[simp] theorem State.modGrd_freeReads (f : Grd → Grd) (s : State) : (s.modGrd f).freeReads = s.freeReads := rfl

@[simp] theorem State.modLmn_volume (f : Lmn → Lmn) (s : State) : (s.modLmn f).volume = s.volume := rfl
@[simp] theorem State.modLmn_csq (f : Lmn → Lmn) (s : State) : (s.modLmn f).csq = s.csq := rfl
@[simp] theorem State.modLmn_grd (f : Lmn → Lmn) (s : State) : (s.modLmn f).grd = s.grd := rfl
@[simp] theorem State.modLmn_lmn (f : Lmn → Lmn) (s : State) : (s.modLmn f).lmn = f s.lmn := rfl
@[simp] theorem State.modLmn_sampling (f : Lmn → Lmn) (s : State) : (s.modLmn f).sampling = s.sampling := rfl
@[simp] theorem State.modLmn_light (f : Lmn → Lmn) (s : State) : (s.modLmn f).light = s.light := rfl
@[simp] theorem State.modLmn_spu (f : Lmn → Lmn) (s : State) : (s.modLmn f).spu = s.spu := rfl
@[simp] theorem State.modLmn_rq (f : Lmn → Lmn) (s : State) : (s.modLmn f).rq = s.rq := rfl
@[simp] theorem State.modLmn_cth (f : Lmn → Lmn) (s : State) : (s.modLmn f).cth = s.cth := rfl
@[simp] theorem State.modLmn_lif (f : Lmn → Lmn) (s : State) : (s.modLmn f).lif = s.lif := rfl
@[simp] theorem State.modLmn_settings (f : Lmn → Lmn) (s : State) : (s.modLmn f).settings = s.settings := rfl
@[simp] theorem State.modLmn_sto (f : Lmn → Lmn) (s : State) : (s.modLmn f).sto = s.sto := rfl
@[simp] theorem State.modLmn_pending (f : Lmn → Lmn) (s : State) : (s.modLmn f).pending = s.pending := rfl
@[simp] theorem State.modLmn_freeReads (f : Lmn → Lmn) (s : State) : (s.modLmn f).freeReads = s.freeReads := rfl

@[simp] theorem State.modSampling_volume (f : Sampling → Sampling) (s : State) : (s.modSampling f).volume = s.volume := rfl
@[simp] theorem State.modSampling_csq (f : Sampling → Sampling) (s : State) : (s.modSampling f).csq = s.csq := rfl
@[simp] theorem State.modSampling_grd (f : Sampling → Sampling) (s : State) : (s.modSampling f).grd = s.grd := rfl
@[simp] theorem State.modSampling_lmn (f : Sampling → Sampling) (s : State) : (s.modSampling f).lmn = s.lmn := rfl
@[simp] theorem State.modSampling_sampling (f : Sampling → Sampling) (s : State) : (s.modSampling f).sampling = f s.sampling := rfl
@[simp] theorem State.modSampling_light (f : Sampling → Sampling) (s : State) : (s.modSampling f).light = s.light := rfl
@[simp] theorem State.modSampling_spu (f : Sampling → Sampling) (s : State) : (s.modSampling f).spu = s.spu := rfl
@[simp] theorem State.modSampling_rq (f : Sampling → Sampling) (s : State) : (s.modSampling f).rq = s.rq := rfl
@[simp] theorem State.modSampling_cth (f : Sampling → Sampling) (s : State) : (s.modSampling f).cth = s.cth := rfl
@[simp] theorem State.modSampling_lif (f : Sampling → Sampling) (s : State) : (s.modSampling f).lif = s.lif := rfl
@[simp] theorem State.modSampling_settings (f : Sampling → Sampling) (s : State) : (s.modSampling f).settings = s.settings := rfl
@[simp] theorem State.modSampling_sto (f : Sampling → Sampling) (s : State) : (s.modSampling f).sto = s.sto := rfl
@[simp] theorem State.modSampling_pending (f : Sampling → Sampling) (s : State) : (s.modSampling f).pending = s.pending := rfl
@[simp] theorem State.modSampling_freeReads (f : Sampling → Sampling) (s : State) : (s.modSampling f).freeReads = s.freeReads := rfl

@[simp] theorem State.setLight_volume (l : Light) (s : State) : (s.setLight l).volume = s.volume := rfl
@[simp] theorem State.setLight_csq (l : Light) (s : State) : (s.setLight l).csq = s.csq := rfl
@[simp] theorem State.setLight_grd (l : Light) (s : State) : (s.setLight l).grd = s.grd := rfl
@[simp] theorem State.setLight_lmn (l : Light) (s : State) : (s.setLight l).lmn = s.lmn := rfl
@[simp] theorem State.setLight_sampling (l : Light) (s : State) : (s.setLight l).sampling = s.sampling := rfl
@[simp] theorem State.setLight_light (l : Light) (s : State) : (s.setLight l).light = l := rfl
@[simp] theorem State.setLight_spu (l : Light) (s : State) : (s.setLight l).spu = s.spu := rfl
@[simp] theorem State.setLight_rq (l : Light) (s : State) : (s.setLight l).rq = s.rq := rfl
@[simp] theorem State.setLight_cth (l : Light) (s : State) : (s.setLight l).cth = s.cth := rfl
@[simp] theorem State.setLight_lif (l : Light) (s : State) : (s.setLight l).lif = s.lif := rfl
@[simp] theorem State.setLight_settings (l : Light) (s : State) : (s.setLight l).settings = s.settings := rfl
@[simp] theorem State.setLight_sto (l : Light) (s : State) : (s.setLight l).sto = s.sto := rfl
@[simp] theorem State.setLight_pending (l : Light) (s : State) : (s.setLight l).pending = s.pending := rfl
@[simp] theorem State.setLight_freeReads (l : Light) (s : State) : (s.setLight l).freeReads = s.freeReads := rfl

@[simp] theorem State.modSpu_volume (f : Spu → Spu) (s : State) : (s.modSpu f).volume = s.volume := rfl
@[simp] theorem State.modSpu_csq (f : Spu → Spu) (s : State) : (s.modSpu f).csq = s.csq := rfl
@[simp] theorem State.modSpu_grd (f : Spu → Spu) (s : State) : (s.modSpu f).grd = s.grd := rfl
@[simp] theorem State.modSpu_lmn (f : Spu → Spu) (s : State) : (s.modSpu f).lmn = s.lmn := rfl
@[simp] theorem State.modSpu_sampling (f : Spu → Spu) (s : State) : (s.modSpu f).sampling = s.sampling := rfl
@[simp] theorem State.modSpu_light (f : Spu → Spu) (s : State) : (s.modSpu f).light = s.light := rfl
@[simp] theorem State.modSpu_spu (f : Spu → Spu) (s : State) : (s.modSpu f).spu = f s.spu := rfl
@[simp] theorem State.modSpu_rq (f : Spu → Spu) (s : State) : (s.modSpu f).rq = s.rq := rfl
@[simp] theorem State.modSpu_cth (f : Spu → Spu) (s : State) : (s.modSpu f).cth = s.cth := rfl
@[simp] theorem State.modSpu_lif (f : Spu → Spu) (s : State) : (s.modSpu f).lif = s.lif := rfl
@[simp] theorem State.modSpu_settings (f : Spu → Spu) (s : State) : (s.modSpu f).settings = s.settings := rfl
@[simp] theorem State.modSpu_sto (f : Spu → Spu) (s : State) : (s.modSpu f).sto = s.sto := rfl
@[simp] theorem State.modSpu_pending (f : Spu → Spu) (s : State) : (s.modSpu f).pending = s.pending := rfl
@[simp] theorem State.modSpu_freeReads (f : Spu → Spu) (s : State) : (s.modSpu f).freeReads = s.freeReads := rfl

@[simp] theorem State.modRq_volume (f : Rq → Rq) (s : State) : (s.modRq f).volume = s.volume := rfl
@[simp] theorem State.modRq_csq (f : Rq → Rq) (s : State) : (s.modRq f).csq = s.csq := rfl
@[simp] theorem State.modRq_grd (f : Rq → Rq) (s : State) : (s.modRq f).grd = s.grd := rfl
@[simp] theorem State.modRq_lmn (f : Rq → Rq) (s : State) : (s.modRq f).lmn = s.lmn := rfl
@[simp] theorem State.modRq_sampling (f : Rq → Rq) (s : State) : (s.modRq f).sampling = s.sampling := rfl
@[simp] theorem State.modRq_light (f : Rq → Rq) (s : State) : (s.modRq f).light = s.light := rfl
@[simp] theorem State.modRq_spu (f : Rq → Rq) (s : State) : (s.modRq f).spu = s.spu := rfl
@[simp] theorem State.modRq_rq (f : Rq → Rq) (s : State) : (s.modRq f).rq = f s.rq := rfl
@[simp] theorem State.modRq_cth (f : Rq → Rq) (s : State) : (s.modRq f).cth = s.cth := rfl
@[simp] theorem State.modRq_lif (f : Rq → Rq) (s : State) : (s.modRq f).lif = s.lif := rfl
@[simp] theorem State.modRq_settings (f : Rq → Rq) (s : State) : (s.modRq f).settings = s.settings := rfl
@[simp] theorem State.modRq_sto (f : Rq → Rq) (s : State) : (s.modRq f).sto = s.sto := rfl
@[simp] theorem State.modRq_pending (f : Rq → Rq) (s : State) : (s.modRq f).pending = s.pending := rfl
@[simp] theorem State.modRq_freeReads (f : Rq → Rq) (s : State) : (s.modRq f).freeReads = s.freeReads := rfl

@[simp] theorem State.modCth_volume (f : Cth → Cth) (s : State) : (s.modCth f).volume = s.volume := rfl
@[simp] theorem State.modCth_csq (f : Cth → Cth) (s : State) : (s.modCth f).csq = s.csq := rfl
@[simp] theorem State.modCth_grd (f : Cth → Cth) (s : State) : (s.modCth f).grd = s.grd := rfl
@[simp] theorem State.modCth_lmn (f : Cth → Cth) (s : State) : (s.modCth f).lmn = s.lmn := rfl
@[simp] theorem State.modCth_sampling (f : Cth → Cth) (s : State) : (s.modCth f).sampling = s.sampling := rfl
@[simp] theorem State.modCth_light (f : Cth → Cth) (s : State) : (s.modCth f).light = s.light := rfl
@[simp] theorem State.modCth_spu (f : Cth → Cth) (s : State) : (s.modCth f).spu = s.spu := rfl
@[simp] theorem State.modCth_rq (f : Cth → Cth) (s : State) : (s.modCth f).rq = s.rq := rfl
@[simp] theorem State.modCth_cth (f : Cth → Cth) (s : State) : (s.modCth f).cth = f s.cth := rfl
@[simp] theorem State.modCth_lif (f : Cth → Cth) (s : State) : (s.modCth f).lif = s.lif := rfl
@[simp] theorem State.modCth_settings (f : Cth → Cth) (s : State) : (s.modCth f).settings = s.settings := rfl
@[simp] theorem State.modCth_sto (f : Cth → Cth) (s : State) : (s.modCth f).sto = s.sto := rfl
@[simp] theorem State.modCth_pending (f : Cth → Cth) (s : State) : (s.modCth f).pending = s.pending := rfl
@[simp] theorem State.modCth_freeReads (f : Cth → Cth) (s : State) : (s.modCth f).freeReads = s.freeReads := rfl

@[simp] theorem State.modLif_volume (f : Lif → Lif) (s : State) : (s.modLif f).volume = s.volume := rfl
@[simp] theorem State.modLif_csq (f : Lif → Lif) (s : State) : (s.modLif f).csq = s.csq := rfl
@[simp] theorem State.modLif_grd (f : Lif → Lif) (s : State) : (s.modLif f).grd = s.grd := rfl
@[simp] theorem State.modLif_lmn (f : Lif → Lif) (s : State) : (s.modLif f).lmn = s.lmn := rfl
@[simp] theorem State.modLif_sampling (f : Lif → Lif) (s : State) : (s.modLif f).sampling = s.sampling := rfl
@[simp] theorem State.modLif_light (f : Lif → Lif) (s : State) : (s.modLif f).light = s.light := rfl
@[simp] theorem State.modLif_spu (f : Lif → Lif) (s : State) : (s.modLif f).spu = s.spu := rfl
@[simp] theorem State.modLif_rq (f : Lif → Lif) (s : State) : (s.modLif f).rq = s.rq := rfl
@[simp] theorem State.modLif_cth (f : Lif → Lif) (s : State) : (s.modLif f).cth = s.cth := rfl
@[simp] theorem State.modLif_lif (f : Lif → Lif) (s : State) : (s.modLif f).lif = f s.lif := rfl
@[simp] theorem State.modLif_settings (f : Lif → Lif) (s : State) : (s.modLif f).settings = s.settings := rfl
@[simp] theorem State.modLif_sto (f : Lif → Lif) (s : State) : (s.modLif f).sto = s.sto := rfl
@[simp] theorem State.modLif_pending (f : Lif → Lif) (s : State) : (s.modLif f).pending = s.pending := rfl
@[simp] theorem State.modLif_freeReads (f : Lif → Lif) (s : State) : (s.modLif f).freeReads = s.freeReads := rfl

@[simp] theorem State.modSettings_volume (f : Settings → Settings) (s : State) : (s.modSettings f).volume = s.volume := rfl
@[simp] theorem State.modSettings_csq (f : Settings → Settings) (s : State) : (s.modSettings f).csq = s.csq := rfl
@[simp] theorem State.modSettings_grd (f : Settings → Settings) (s : State) : (s.modSettings f).grd = s.grd := rfl
@[simp] theorem State.modSettings_lmn (f : Settings → Settings) (s : State) : (s.modSettings f).lmn = s.lmn := rfl
@[simp] theorem State.modSettings_sampling (f : Settings → Settings) (s : State) : (s.modSettings f).sampling = s.sampling := rfl
@[simp] theorem State.modSettings_light (f : Settings → Settings) (s : State) : (s.modSettings f).light = s.light := rfl
@[simp] theorem State.modSettings_spu (f : Settings → Settings) (s : State) : (s.modSettings f).spu = s.spu := rfl
@[simp] theorem State.modSettings_rq (f : Settings → Settings) (s : State) : (s.modSettings f).rq = s.rq := rfl
@[simp] theorem State.modSettings_cth (f : Settings → Settings) (s : State) : (s.modSettings f).cth = s.cth := rfl
@[simp] theorem State.modSettings_lif (f : Settings → Settings) (s : State) : (s.modSettings f).lif = s.lif := rfl
@[simp] theorem State.modSettings_settings (f : Settings → Settings) (s : State) : (s.modSettings f).settings = f s.settings := rfl
@[simp] theorem State.modSettings_sto (f : Settings → Settings) (s : State) : (s.modSettings f).sto = s.sto := rfl
@[simp] theorem State.modSettings_pending (f : Settings → Settings) (s : State) : (s.modSettings f).pending = s.pending := rfl
@[simp] theorem State.modSettings_freeReads (f : Settings → Settings) (s : State) : (s.modSettings f).freeReads = s.freeReads := rfl

@[simp] theorem State.modSto_volume (f : Sto → Sto) (s : State) : (s.modSto f).volume = s.volume := rfl
@[simp] theorem State.modSto_csq (f : Sto → Sto) (s : State) : (s.modSto f).csq = s.csq := rfl
@[simp] theorem State.modSto_grd (f : Sto → Sto) (s : State) : (s.modSto f).grd = s.grd := rfl
@[simp] theorem State.modSto_lmn (f : Sto → Sto) (s : State) : (s.modSto f).lmn = s.lmn := rfl
@[simp] theorem State.modSto_sampling (f : Sto → Sto) (s : State) : (s.modSto f).sampling = s.sampling := rfl
@[simp] theorem State.modSto_light (f : Sto → Sto) (s : State) : (s.modSto f).light = s.light := rfl
@[simp] theorem State.modSto_spu (f : Sto → Sto) (s : State) : (s.modSto f).spu = s.spu := rfl
@[simp] theorem State.modSto_rq (f : Sto → Sto) (s : State) : (s.modSto f).rq = s.rq := rfl
@[simp] theorem State.modSto_cth (f : Sto → Sto) (s : State) : (s.modSto f).cth = s.cth := rfl
@[simp] theorem State.modSto_lif (f : Sto → Sto) (s : State) : (s.modSto f).lif = s.lif := rfl
@[simp] theorem State.modSto_settings (f : Sto → Sto) (s : State) : (s.modSto f).settings = s.settings := rfl
@[simp] theorem State.modSto_sto (f : Sto → Sto) (s : State) : (s.modSto f).sto = f s.sto := rfl
@[simp] theorem State.modSto_pending (f : Sto → Sto) (s : State) : (s.modSto f).pending = s.pending := rfl
@[simp] theorem State.modSto_freeReads (f : Sto → Sto) (s : State) : (s.modSto f).freeReads = s.freeReads := rfl

@[simp] theorem State.setPending_volume (q : List Instr) (s : State) : (s.setPending q).volume = s.volume := rfl
@[simp] theorem State.setPending_csq (q : List Instr) (s : State) : (s.setPending q).csq = s.csq := rfl
@[simp] theorem State.setPending_grd (q : List Instr) (s : State) : (s.setPending q).grd = s.grd := rfl
@[simp] theorem State.setPending_lmn (q : List Instr) (s : State) : (s.setPending q).lmn = s.lmn := rfl
@[simp] theorem State.setPending_sampling (q : List Instr) (s : State) : (s.setPending q).sampling = s.sampling := rfl
@[simp] theorem State.setPending_light (q : List Instr) (s : State) : (s.setPending q).light = s.light := rfl
@[simp] theorem State.setPending_spu (q : List Instr) (s : State) : (s.setPending q).spu = s.spu := rfl
@[simp] theorem State.setPending_rq (q : List Instr) (s : State) : (s.setPending q).rq = s.rq := rfl
@[simp] theorem State.setPending_cth (q : List Instr) (s : State) : (s.setPending q).cth = s.cth := rfl
@[simp] theorem State.setPending_lif (q : List Instr) (s : State) : (s.setPending q).lif = s.lif := rfl
@[simp] theorem State.setPending_settings (q : List Instr) (s : State) : (s.setPending q).settings = s.settings := rfl
@[simp] theorem State.setPending_sto (q : List Instr) (s : State) : (s.setPending q).sto = s.sto := rfl
@[simp] theorem State.setPending_pending (q : List Instr) (s : State) : (s.setPending q).pending = q := rfl
@[simp] theorem State.setPending_freeReads (q : List Instr) (s : State) : (s.setPending q).freeReads = s.freeReads := rfl

@[simp] theorem State.setFreeReads_volume (n : Nat) (s : State) : (s.setFreeReads n).volume = s.volume := rfl
@[simp] theorem State.setFreeReads_csq (n : Nat) (s : State) : (s.setFreeReads n).csq = s.csq := rfl
@[simp] theorem State.setFreeReads_grd (n : Nat) (s : State) : (s.setFreeReads n).grd = s.grd := rfl
@[simp] theorem State.setFreeReads_lmn (n : Nat) (s : State) : (s.setFreeReads n).lmn = s.lmn := rfl
@[simp] theorem State.setFreeReads_sampling (n : Nat) (s : State) : (s.setFreeReads n).sampling = s.sampling := rfl
@[simp] theorem State.setFreeReads_light (n : Nat) (s : State) : (s.setFreeReads n).light = s.light := rfl
@[simp] theorem State.setFreeReads_spu (n : Nat) (s : State) : (s.setFreeReads n).spu = s.spu := rfl
@[simp] theorem State.setFreeReads_rq (n : Nat) (s : State) : (s.setFreeReads n).rq = s.rq := rfl
@[simp] theorem State.setFreeReads_cth (n : Nat) (s : State) : (s.setFreeReads n).cth = s.cth := rfl
@[simp] theorem State.setFreeReads_lif (n : Nat) (s : State) : (s.setFreeReads n).lif = s.lif := rfl
@[simp] theorem State.setFreeReads_settings (n : Nat) (s : State) : (s.setFreeReads n).settings = s.settings := rfl
@[simp] theorem State.setFreeReads_sto (n : Nat) (s : State) : (s.setFreeReads n).sto = s.sto := rfl
@[simp] theorem State.setFreeReads_pending (n : Nat) (s : State) : (s.setFreeReads n).pending = s.pending := rfl
@[simp] theorem State.setFreeReads_freeReads (n : Nat) (s : State) : (s.setFreeReads n).freeReads = n := rfl

end Sys2Proof.Machine
end

