-- ==== Sys2Proof/Laws/Ops.lean ====
section
/-! SUPPORT. What the shared operations of Machine/Flags.lean and Machine/Ops.lean leave alone, field by field, and
what each of them does to the field it changes. -/

namespace Sys2Proof.Machine

@[simp] theorem gain_volume (c : Cond) (s : State) :
    (gain c s).volume = s.volume := by unfold gain; split <;> simp
@[simp] theorem gain_csq (c : Cond) (s : State) : (gain c s).csq = s.csq := by unfold gain; split <;> simp
@[simp] theorem gain_grd (c : Cond) (s : State) : (gain c s).grd = s.grd := by unfold gain; split <;> simp
@[simp] theorem gain_lmn (c : Cond) (s : State) : (gain c s).lmn = s.lmn := by unfold gain; split <;> simp
@[simp] theorem gain_sampling (c : Cond) (s : State) : (gain c s).sampling = s.sampling := by unfold gain; split <;> simp
@[simp] theorem gain_light (c : Cond) (s : State) :
    (gain c s).light = s.light := by unfold gain; split <;> simp
@[simp] theorem gain_spu (c : Cond) (s : State) : (gain c s).spu = s.spu := by unfold gain; split <;> simp
@[simp] theorem gain_rq (c : Cond) (s : State) : (gain c s).rq = s.rq := by unfold gain; split <;> simp
@[simp] theorem gain_cth (c : Cond) (s : State) : (gain c s).cth = s.cth := by unfold gain; split <;> simp
@[simp] theorem gain_settings (c : Cond) (s : State) :
    (gain c s).settings = s.settings := by unfold gain; split <;> simp
@[simp] theorem gain_sto (c : Cond) (s : State) : (gain c s).sto = s.sto := by unfold gain; split <;> simp
@[simp] theorem gain_pending (c : Cond) (s : State) :
    (gain c s).pending = s.pending := by unfold gain; split <;> simp
@[simp] theorem gain_freeReads (c : Cond) (s : State) :
    (gain c s).freeReads = s.freeReads := by unfold gain; split <;> simp
@[simp] theorem gain_lif_mask (c : Cond) (s : State) :
    (gain c s).lif.mask = s.lif.mask := by unfold gain; split <;> simp
@[simp] theorem gain_lif_slots (c : Cond) (s : State) :
    (gain c s).lif.slots = s.lif.slots := by unfold gain; split <;> simp
@[simp] theorem gain_lif_outbox (c : Cond) (s : State) :
    (gain c s).lif.outbox = s.lif.outbox := by unfold gain; split <;> simp
@[simp] theorem gain_lif_tx (c : Cond) (s : State) :
    (gain c s).lif.tx = s.lif.tx := by unfold gain; split <;> simp

@[simp] theorem setCond_volume (c : Cond) (s : State) :
    (setCond c s).volume = s.volume := by unfold setCond; split <;> simp
@[simp] theorem setCond_csq (c : Cond) (s : State) :
    (setCond c s).csq = s.csq := by unfold setCond; split <;> simp
@[simp] theorem setCond_grd (c : Cond) (s : State) :
    (setCond c s).grd = s.grd := by unfold setCond; split <;> simp
@[simp] theorem setCond_lmn (c : Cond) (s : State) :
    (setCond c s).lmn = s.lmn := by unfold setCond; split <;> simp
@[simp] theorem setCond_sampling (c : Cond) (s : State) :
    (setCond c s).sampling = s.sampling := by unfold setCond; split <;> simp
@[simp] theorem setCond_light (c : Cond) (s : State) :
    (setCond c s).light = s.light := by unfold setCond; split <;> simp
@[simp] theorem setCond_spu (c : Cond) (s : State) :
    (setCond c s).spu = s.spu := by unfold setCond; split <;> simp
@[simp] theorem setCond_rq (c : Cond) (s : State) :
    (setCond c s).rq = s.rq := by unfold setCond; split <;> simp
@[simp] theorem setCond_cth (c : Cond) (s : State) :
    (setCond c s).cth = s.cth := by unfold setCond; split <;> simp
@[simp] theorem setCond_settings (c : Cond) (s : State) :
    (setCond c s).settings = s.settings := by unfold setCond; split <;> simp
@[simp] theorem setCond_sto (c : Cond) (s : State) :
    (setCond c s).sto = s.sto := by unfold setCond; split <;> simp
@[simp] theorem setCond_pending (c : Cond) (s : State) :
    (setCond c s).pending = s.pending := by unfold setCond; split <;> simp
@[simp] theorem setCond_freeReads (c : Cond) (s : State) :
    (setCond c s).freeReads = s.freeReads := by unfold setCond; split <;> simp
@[simp] theorem setCond_lif_mask (c : Cond) (s : State) :
    (setCond c s).lif.mask = s.lif.mask := by unfold setCond; split <;> simp
@[simp] theorem setCond_lif_slots (c : Cond) (s : State) :
    (setCond c s).lif.slots = s.lif.slots := by unfold setCond; split <;> simp
@[simp] theorem setCond_lif_outbox (c : Cond) (s : State) :
    (setCond c s).lif.outbox = s.lif.outbox := by unfold setCond; split <;> simp
@[simp] theorem setCond_lif_tx (c : Cond) (s : State) :
    (setCond c s).lif.tx = s.lif.tx := by unfold setCond; split <;> simp

@[simp] theorem riseLevel_volume (c : Cond) (s : State) :
    (riseLevel c s).volume = s.volume := by simp [riseLevel]
@[simp] theorem riseLevel_csq (c : Cond) (s : State) : (riseLevel c s).csq = s.csq := by simp [riseLevel]
@[simp] theorem riseLevel_grd (c : Cond) (s : State) : (riseLevel c s).grd = s.grd := by simp [riseLevel]
@[simp] theorem riseLevel_lmn (c : Cond) (s : State) : (riseLevel c s).lmn = s.lmn := by simp [riseLevel]
@[simp] theorem riseLevel_sampling (c : Cond) (s : State) : (riseLevel c s).sampling = s.sampling := by simp [riseLevel]
@[simp] theorem riseLevel_light (c : Cond) (s : State) :
    (riseLevel c s).light = s.light := by simp [riseLevel]
@[simp] theorem riseLevel_spu (c : Cond) (s : State) : (riseLevel c s).spu = s.spu := by simp [riseLevel]
@[simp] theorem riseLevel_rq (c : Cond) (s : State) : (riseLevel c s).rq = s.rq := by simp [riseLevel]
@[simp] theorem riseLevel_cth (c : Cond) (s : State) : (riseLevel c s).cth = s.cth := by simp [riseLevel]
@[simp] theorem riseLevel_settings (c : Cond) (s : State) :
    (riseLevel c s).settings = s.settings := by simp [riseLevel]
@[simp] theorem riseLevel_sto (c : Cond) (s : State) : (riseLevel c s).sto = s.sto := by simp [riseLevel]
@[simp] theorem riseLevel_pending (c : Cond) (s : State) :
    (riseLevel c s).pending = s.pending := by simp [riseLevel]
@[simp] theorem riseLevel_freeReads (c : Cond) (s : State) :
    (riseLevel c s).freeReads = s.freeReads := by simp [riseLevel]
@[simp] theorem riseLevel_lif_mask (c : Cond) (s : State) :
    (riseLevel c s).lif.mask = s.lif.mask := by simp [riseLevel]
@[simp] theorem riseLevel_lif_slots (c : Cond) (s : State) :
    (riseLevel c s).lif.slots = s.lif.slots := by simp [riseLevel]
@[simp] theorem riseLevel_lif_outbox (c : Cond) (s : State) :
    (riseLevel c s).lif.outbox = s.lif.outbox := by simp [riseLevel]
@[simp] theorem riseLevel_lif_tx (c : Cond) (s : State) :
    (riseLevel c s).lif.tx = s.lif.tx := by simp [riseLevel]

@[simp] theorem updateCounters_volume (f : Counter → Counter × Bool) (s : State) :
    (updateCounters f s).volume = s.volume := by unfold updateCounters; split <;> simp
@[simp] theorem updateCounters_csq (f : Counter → Counter × Bool) (s : State) :
    (updateCounters f s).csq = s.csq := by unfold updateCounters; split <;> simp
@[simp] theorem updateCounters_grd (f : Counter → Counter × Bool) (s : State) :
    (updateCounters f s).grd = s.grd := by unfold updateCounters; split <;> simp
@[simp] theorem updateCounters_lmn (f : Counter → Counter × Bool) (s : State) :
    (updateCounters f s).lmn = s.lmn := by unfold updateCounters; split <;> simp
@[simp] theorem updateCounters_sampling (f : Counter → Counter × Bool) (s : State) :
    (updateCounters f s).sampling = s.sampling := by unfold updateCounters; split <;> simp
@[simp] theorem updateCounters_light (f : Counter → Counter × Bool) (s : State) :
    (updateCounters f s).light = s.light := by unfold updateCounters; split <;> simp
@[simp] theorem updateCounters_spu (f : Counter → Counter × Bool) (s : State) :
    (updateCounters f s).spu = s.spu := by unfold updateCounters; split <;> simp
@[simp] theorem updateCounters_rq (f : Counter → Counter × Bool) (s : State) :
    (updateCounters f s).rq = s.rq := by unfold updateCounters; split <;> simp
@[simp] theorem updateCounters_settings (f : Counter → Counter × Bool) (s : State) :
    (updateCounters f s).settings = s.settings := by unfold updateCounters; split <;> simp
@[simp] theorem updateCounters_sto (f : Counter → Counter × Bool) (s : State) :
    (updateCounters f s).sto = s.sto := by unfold updateCounters; split <;> simp
@[simp] theorem updateCounters_pending (f : Counter → Counter × Bool) (s : State) :
    (updateCounters f s).pending = s.pending := by unfold updateCounters; split <;> simp
@[simp] theorem updateCounters_freeReads (f : Counter → Counter × Bool) (s : State) :
    (updateCounters f s).freeReads = s.freeReads := by unfold updateCounters; split <;> simp
@[simp] theorem updateCounters_cth_timeBase (f : Counter → Counter × Bool) (s : State) :
    (updateCounters f s).cth.timeBase = s.cth.timeBase := by unfold updateCounters; split <;> simp
@[simp] theorem updateCounters_lif_mask (f : Counter → Counter × Bool) (s : State) :
    (updateCounters f s).lif.mask = s.lif.mask := by unfold updateCounters; split <;> simp
@[simp] theorem updateCounters_lif_slots (f : Counter → Counter × Bool) (s : State) :
    (updateCounters f s).lif.slots = s.lif.slots := by unfold updateCounters; split <;> simp
@[simp] theorem updateCounters_lif_outbox (f : Counter → Counter × Bool) (s : State) :
    (updateCounters f s).lif.outbox = s.lif.outbox := by unfold updateCounters; split <;> simp
@[simp] theorem updateCounters_lif_tx (f : Counter → Counter × Bool) (s : State) :
    (updateCounters f s).lif.tx = s.lif.tx := by unfold updateCounters; split <;> simp

@[simp] theorem event_volume (e : CounterEvent) (s : State) :
    (event e s).volume = s.volume := by simp [event]
@[simp] theorem event_csq (e : CounterEvent) (s : State) : (event e s).csq = s.csq := by simp [event]
@[simp] theorem event_grd (e : CounterEvent) (s : State) : (event e s).grd = s.grd := by simp [event]
@[simp] theorem event_lmn (e : CounterEvent) (s : State) : (event e s).lmn = s.lmn := by simp [event]
@[simp] theorem event_sampling (e : CounterEvent) (s : State) : (event e s).sampling = s.sampling := by simp [event]
@[simp] theorem event_light (e : CounterEvent) (s : State) : (event e s).light = s.light := by simp [event]
@[simp] theorem event_spu (e : CounterEvent) (s : State) : (event e s).spu = s.spu := by simp [event]
@[simp] theorem event_rq (e : CounterEvent) (s : State) : (event e s).rq = s.rq := by simp [event]
@[simp] theorem event_settings (e : CounterEvent) (s : State) :
    (event e s).settings = s.settings := by simp [event]
@[simp] theorem event_sto (e : CounterEvent) (s : State) : (event e s).sto = s.sto := by simp [event]
@[simp] theorem event_pending (e : CounterEvent) (s : State) :
    (event e s).pending = s.pending := by simp [event]
@[simp] theorem event_freeReads (e : CounterEvent) (s : State) :
    (event e s).freeReads = s.freeReads := by simp [event]
@[simp] theorem event_cth_timeBase (e : CounterEvent) (s : State) :
    (event e s).cth.timeBase = s.cth.timeBase := by simp [event]
@[simp] theorem event_lif_mask (e : CounterEvent) (s : State) :
    (event e s).lif.mask = s.lif.mask := by simp [event]
@[simp] theorem event_lif_slots (e : CounterEvent) (s : State) :
    (event e s).lif.slots = s.lif.slots := by simp [event]
@[simp] theorem event_lif_outbox (e : CounterEvent) (s : State) :
    (event e s).lif.outbox = s.lif.outbox := by simp [event]
@[simp] theorem event_lif_tx (e : CounterEvent) (s : State) :
    (event e s).lif.tx = s.lif.tx := by simp [event]

@[simp] theorem judge_volume (e : CounterEvent) (tally : Nat) (s : State) :
    (judge e tally s).volume = s.volume := by simp [judge]
@[simp] theorem judge_csq (e : CounterEvent) (tally : Nat) (s : State) :
    (judge e tally s).csq = s.csq := by simp [judge]
@[simp] theorem judge_grd (e : CounterEvent) (tally : Nat) (s : State) :
    (judge e tally s).grd = s.grd := by simp [judge]
@[simp] theorem judge_lmn (e : CounterEvent) (tally : Nat) (s : State) :
    (judge e tally s).lmn = s.lmn := by simp [judge]
@[simp] theorem judge_sampling (e : CounterEvent) (tally : Nat) (s : State) :
    (judge e tally s).sampling = s.sampling := by simp [judge]
@[simp] theorem judge_light (e : CounterEvent) (tally : Nat) (s : State) :
    (judge e tally s).light = s.light := by simp [judge]
@[simp] theorem judge_spu (e : CounterEvent) (tally : Nat) (s : State) :
    (judge e tally s).spu = s.spu := by simp [judge]
@[simp] theorem judge_rq (e : CounterEvent) (tally : Nat) (s : State) :
    (judge e tally s).rq = s.rq := by simp [judge]
@[simp] theorem judge_settings (e : CounterEvent) (tally : Nat) (s : State) :
    (judge e tally s).settings = s.settings := by simp [judge]
@[simp] theorem judge_sto (e : CounterEvent) (tally : Nat) (s : State) :
    (judge e tally s).sto = s.sto := by simp [judge]
@[simp] theorem judge_pending (e : CounterEvent) (tally : Nat) (s : State) :
    (judge e tally s).pending = s.pending := by simp [judge]
@[simp] theorem judge_freeReads (e : CounterEvent) (tally : Nat) (s : State) :
    (judge e tally s).freeReads = s.freeReads := by simp [judge]
@[simp] theorem judge_cth_timeBase (e : CounterEvent) (tally : Nat) (s : State) :
    (judge e tally s).cth.timeBase = s.cth.timeBase := by simp [judge]
@[simp] theorem judge_lif_mask (e : CounterEvent) (tally : Nat) (s : State) :
    (judge e tally s).lif.mask = s.lif.mask := by simp [judge]
@[simp] theorem judge_lif_slots (e : CounterEvent) (tally : Nat) (s : State) :
    (judge e tally s).lif.slots = s.lif.slots := by simp [judge]
@[simp] theorem judge_lif_outbox (e : CounterEvent) (tally : Nat) (s : State) :
    (judge e tally s).lif.outbox = s.lif.outbox := by simp [judge]
@[simp] theorem judge_lif_tx (e : CounterEvent) (tally : Nat) (s : State) :
    (judge e tally s).lif.tx = s.lif.tx := by simp [judge]

@[simp] theorem openTurnScope_volume (s : State) : (openTurnScope s).volume = s.volume := rfl
@[simp] theorem openTurnScope_csq (s : State) : (openTurnScope s).csq = s.csq := rfl
@[simp] theorem openTurnScope_grd (s : State) : (openTurnScope s).grd = s.grd := rfl
@[simp] theorem openTurnScope_lmn (s : State) : (openTurnScope s).lmn = s.lmn := rfl
@[simp] theorem openTurnScope_sampling (s : State) : (openTurnScope s).sampling = s.sampling := rfl
@[simp] theorem openTurnScope_light (s : State) : (openTurnScope s).light = s.light := rfl
@[simp] theorem openTurnScope_spu (s : State) : (openTurnScope s).spu = s.spu := rfl
@[simp] theorem openTurnScope_rq (s : State) : (openTurnScope s).rq = s.rq := rfl
@[simp] theorem openTurnScope_lif (s : State) : (openTurnScope s).lif = s.lif := rfl
@[simp] theorem openTurnScope_settings (s : State) : (openTurnScope s).settings = s.settings := rfl
@[simp] theorem openTurnScope_sto (s : State) : (openTurnScope s).sto = s.sto := rfl
@[simp] theorem openTurnScope_pending (s : State) : (openTurnScope s).pending = s.pending := rfl
@[simp] theorem openTurnScope_freeReads (s : State) : (openTurnScope s).freeReads = s.freeReads := rfl
@[simp] theorem openTurnScope_cth_timeBase (s : State) :
    (openTurnScope s).cth.timeBase = s.cth.timeBase := rfl

@[simp] theorem closeTurnScope_volume (s : State) :
    (closeTurnScope s).volume = s.volume := by simp [closeTurnScope]
@[simp] theorem closeTurnScope_csq (s : State) : (closeTurnScope s).csq = s.csq := by simp [closeTurnScope]
@[simp] theorem closeTurnScope_grd (s : State) : (closeTurnScope s).grd = s.grd := by simp [closeTurnScope]
@[simp] theorem closeTurnScope_lmn (s : State) : (closeTurnScope s).lmn = s.lmn := by simp [closeTurnScope]
@[simp] theorem closeTurnScope_sampling (s : State) : (closeTurnScope s).sampling = s.sampling := by simp [closeTurnScope]
@[simp] theorem closeTurnScope_light (s : State) :
    (closeTurnScope s).light = s.light := by simp [closeTurnScope]
@[simp] theorem closeTurnScope_spu (s : State) : (closeTurnScope s).spu = s.spu := by simp [closeTurnScope]
@[simp] theorem closeTurnScope_rq (s : State) : (closeTurnScope s).rq = s.rq := by simp [closeTurnScope]
@[simp] theorem closeTurnScope_settings (s : State) :
    (closeTurnScope s).settings = s.settings := by simp [closeTurnScope]
@[simp] theorem closeTurnScope_sto (s : State) : (closeTurnScope s).sto = s.sto := by simp [closeTurnScope]
@[simp] theorem closeTurnScope_pending (s : State) :
    (closeTurnScope s).pending = s.pending := by simp [closeTurnScope]
@[simp] theorem closeTurnScope_freeReads (s : State) :
    (closeTurnScope s).freeReads = s.freeReads := by simp [closeTurnScope]
@[simp] theorem closeTurnScope_cth_timeBase (s : State) :
    (closeTurnScope s).cth.timeBase = s.cth.timeBase := by simp [closeTurnScope]
@[simp] theorem closeTurnScope_lif_mask (s : State) :
    (closeTurnScope s).lif.mask = s.lif.mask := by simp [closeTurnScope]
@[simp] theorem closeTurnScope_lif_slots (s : State) :
    (closeTurnScope s).lif.slots = s.lif.slots := by simp [closeTurnScope]
@[simp] theorem closeTurnScope_lif_outbox (s : State) :
    (closeTurnScope s).lif.outbox = s.lif.outbox := by simp [closeTurnScope]
@[simp] theorem closeTurnScope_lif_tx (s : State) :
    (closeTurnScope s).lif.tx = s.lif.tx := by simp [closeTurnScope]

@[simp] theorem openSettleScope_volume (s : State) : (openSettleScope s).volume = s.volume := rfl
@[simp] theorem openSettleScope_csq (s : State) : (openSettleScope s).csq = s.csq := rfl
@[simp] theorem openSettleScope_grd (s : State) : (openSettleScope s).grd = s.grd := rfl
@[simp] theorem openSettleScope_lmn (s : State) : (openSettleScope s).lmn = s.lmn := rfl
@[simp] theorem openSettleScope_sampling (s : State) : (openSettleScope s).sampling = s.sampling := rfl
@[simp] theorem openSettleScope_light (s : State) : (openSettleScope s).light = s.light := rfl
@[simp] theorem openSettleScope_spu (s : State) : (openSettleScope s).spu = s.spu := rfl
@[simp] theorem openSettleScope_rq (s : State) : (openSettleScope s).rq = s.rq := rfl
@[simp] theorem openSettleScope_lif (s : State) : (openSettleScope s).lif = s.lif := rfl
@[simp] theorem openSettleScope_settings (s : State) : (openSettleScope s).settings = s.settings := rfl
@[simp] theorem openSettleScope_sto (s : State) : (openSettleScope s).sto = s.sto := rfl
@[simp] theorem openSettleScope_pending (s : State) : (openSettleScope s).pending = s.pending := rfl
@[simp] theorem openSettleScope_freeReads (s : State) : (openSettleScope s).freeReads = s.freeReads := rfl
@[simp] theorem openSettleScope_cth_timeBase (s : State) :
    (openSettleScope s).cth.timeBase = s.cth.timeBase := rfl

@[simp] theorem closeSettleScope_volume (s : State) :
    (closeSettleScope s).volume = s.volume := by unfold closeSettleScope; split <;> simp
@[simp] theorem closeSettleScope_csq (s : State) :
    (closeSettleScope s).csq = s.csq := by unfold closeSettleScope; split <;> simp
@[simp] theorem closeSettleScope_grd (s : State) :
    (closeSettleScope s).grd = s.grd := by unfold closeSettleScope; split <;> simp
@[simp] theorem closeSettleScope_lmn (s : State) :
    (closeSettleScope s).lmn = s.lmn := by unfold closeSettleScope; split <;> simp
@[simp] theorem closeSettleScope_sampling (s : State) :
    (closeSettleScope s).sampling = s.sampling := by unfold closeSettleScope; split <;> simp
@[simp] theorem closeSettleScope_light (s : State) :
    (closeSettleScope s).light = s.light := by unfold closeSettleScope; split <;> simp
@[simp] theorem closeSettleScope_spu (s : State) :
    (closeSettleScope s).spu = s.spu := by unfold closeSettleScope; split <;> simp
@[simp] theorem closeSettleScope_rq (s : State) :
    (closeSettleScope s).rq = s.rq := by unfold closeSettleScope; split <;> simp
@[simp] theorem closeSettleScope_settings (s : State) :
    (closeSettleScope s).settings = s.settings := by unfold closeSettleScope; split <;> simp
@[simp] theorem closeSettleScope_sto (s : State) :
    (closeSettleScope s).sto = s.sto := by unfold closeSettleScope; split <;> simp
@[simp] theorem closeSettleScope_pending (s : State) :
    (closeSettleScope s).pending = s.pending := by unfold closeSettleScope; split <;> simp
@[simp] theorem closeSettleScope_freeReads (s : State) :
    (closeSettleScope s).freeReads = s.freeReads := by unfold closeSettleScope; split <;> simp
@[simp] theorem closeSettleScope_cth_timeBase (s : State) :
    (closeSettleScope s).cth.timeBase = s.cth.timeBase := by unfold closeSettleScope; split <;> simp
@[simp] theorem closeSettleScope_lif_mask (s : State) :
    (closeSettleScope s).lif.mask = s.lif.mask := by unfold closeSettleScope; split <;> simp
@[simp] theorem closeSettleScope_lif_slots (s : State) :
    (closeSettleScope s).lif.slots = s.lif.slots := by unfold closeSettleScope; split <;> simp
@[simp] theorem closeSettleScope_lif_outbox (s : State) :
    (closeSettleScope s).lif.outbox = s.lif.outbox := by unfold closeSettleScope; split <;> simp
@[simp] theorem closeSettleScope_lif_tx (s : State) :
    (closeSettleScope s).lif.tx = s.lif.tx := by unfold closeSettleScope; split <;> simp

@[simp] theorem openPassScope_volume (s : State) : (openPassScope s).volume = s.volume := rfl
@[simp] theorem openPassScope_csq (s : State) : (openPassScope s).csq = s.csq := rfl
@[simp] theorem openPassScope_grd (s : State) : (openPassScope s).grd = s.grd := rfl
@[simp] theorem openPassScope_lmn (s : State) : (openPassScope s).lmn = s.lmn := rfl
@[simp] theorem openPassScope_sampling (s : State) : (openPassScope s).sampling = s.sampling := rfl
@[simp] theorem openPassScope_light (s : State) : (openPassScope s).light = s.light := rfl
@[simp] theorem openPassScope_spu (s : State) : (openPassScope s).spu = s.spu := rfl
@[simp] theorem openPassScope_rq (s : State) : (openPassScope s).rq = s.rq := rfl
@[simp] theorem openPassScope_lif (s : State) : (openPassScope s).lif = s.lif := rfl
@[simp] theorem openPassScope_settings (s : State) : (openPassScope s).settings = s.settings := rfl
@[simp] theorem openPassScope_sto (s : State) : (openPassScope s).sto = s.sto := rfl
@[simp] theorem openPassScope_pending (s : State) : (openPassScope s).pending = s.pending := rfl
@[simp] theorem openPassScope_freeReads (s : State) : (openPassScope s).freeReads = s.freeReads := rfl
@[simp] theorem openPassScope_cth_timeBase (s : State) :
    (openPassScope s).cth.timeBase = s.cth.timeBase := rfl

@[simp] theorem closePassScope_volume (s : State) :
    (closePassScope s).volume = s.volume := by simp [closePassScope]
@[simp] theorem closePassScope_csq (s : State) : (closePassScope s).csq = s.csq := by simp [closePassScope]
@[simp] theorem closePassScope_grd (s : State) : (closePassScope s).grd = s.grd := by simp [closePassScope]
@[simp] theorem closePassScope_lmn (s : State) : (closePassScope s).lmn = s.lmn := by simp [closePassScope]
@[simp] theorem closePassScope_sampling (s : State) : (closePassScope s).sampling = s.sampling := by simp [closePassScope]
@[simp] theorem closePassScope_light (s : State) :
    (closePassScope s).light = s.light := by simp [closePassScope]
@[simp] theorem closePassScope_spu (s : State) : (closePassScope s).spu = s.spu := by simp [closePassScope]
@[simp] theorem closePassScope_rq (s : State) : (closePassScope s).rq = s.rq := by simp [closePassScope]
@[simp] theorem closePassScope_settings (s : State) :
    (closePassScope s).settings = s.settings := by simp [closePassScope]
@[simp] theorem closePassScope_sto (s : State) : (closePassScope s).sto = s.sto := by simp [closePassScope]
@[simp] theorem closePassScope_pending (s : State) :
    (closePassScope s).pending = s.pending := by simp [closePassScope]
@[simp] theorem closePassScope_freeReads (s : State) :
    (closePassScope s).freeReads = s.freeReads := by simp [closePassScope]
@[simp] theorem closePassScope_cth_timeBase (s : State) :
    (closePassScope s).cth.timeBase = s.cth.timeBase := by simp [closePassScope]
@[simp] theorem closePassScope_lif_mask (s : State) :
    (closePassScope s).lif.mask = s.lif.mask := by simp [closePassScope]
@[simp] theorem closePassScope_lif_slots (s : State) :
    (closePassScope s).lif.slots = s.lif.slots := by simp [closePassScope]
@[simp] theorem closePassScope_lif_outbox (s : State) :
    (closePassScope s).lif.outbox = s.lif.outbox := by simp [closePassScope]
@[simp] theorem closePassScope_lif_tx (s : State) :
    (closePassScope s).lif.tx = s.lif.tx := by simp [closePassScope]

@[simp] theorem edge_volume (e : CounterEvent) (entry : Bool) (s : State) :
    (edge e entry s).volume = s.volume := by simp [edge]
@[simp] theorem edge_csq (e : CounterEvent) (entry : Bool) (s : State) :
    (edge e entry s).csq = s.csq := by simp [edge]
@[simp] theorem edge_grd (e : CounterEvent) (entry : Bool) (s : State) :
    (edge e entry s).grd = s.grd := by simp [edge]
@[simp] theorem edge_lmn (e : CounterEvent) (entry : Bool) (s : State) :
    (edge e entry s).lmn = s.lmn := by simp [edge]
@[simp] theorem edge_sampling (e : CounterEvent) (entry : Bool) (s : State) :
    (edge e entry s).sampling = s.sampling := by simp [edge]
@[simp] theorem edge_light (e : CounterEvent) (entry : Bool) (s : State) :
    (edge e entry s).light = s.light := by simp [edge]
@[simp] theorem edge_spu (e : CounterEvent) (entry : Bool) (s : State) :
    (edge e entry s).spu = s.spu := by simp [edge]
@[simp] theorem edge_rq (e : CounterEvent) (entry : Bool) (s : State) :
    (edge e entry s).rq = s.rq := by simp [edge]
@[simp] theorem edge_settings (e : CounterEvent) (entry : Bool) (s : State) :
    (edge e entry s).settings = s.settings := by simp [edge]
@[simp] theorem edge_sto (e : CounterEvent) (entry : Bool) (s : State) :
    (edge e entry s).sto = s.sto := by simp [edge]
@[simp] theorem edge_pending (e : CounterEvent) (entry : Bool) (s : State) :
    (edge e entry s).pending = s.pending := by simp [edge]
@[simp] theorem edge_freeReads (e : CounterEvent) (entry : Bool) (s : State) :
    (edge e entry s).freeReads = s.freeReads := by simp [edge]
@[simp] theorem edge_cth_timeBase (e : CounterEvent) (entry : Bool) (s : State) :
    (edge e entry s).cth.timeBase = s.cth.timeBase := by simp [edge]
@[simp] theorem edge_lif_mask (e : CounterEvent) (entry : Bool) (s : State) :
    (edge e entry s).lif.mask = s.lif.mask := by simp [edge]
@[simp] theorem edge_lif_slots (e : CounterEvent) (entry : Bool) (s : State) :
    (edge e entry s).lif.slots = s.lif.slots := by simp [edge]
@[simp] theorem edge_lif_outbox (e : CounterEvent) (entry : Bool) (s : State) :
    (edge e entry s).lif.outbox = s.lif.outbox := by simp [edge]
@[simp] theorem edge_lif_tx (e : CounterEvent) (entry : Bool) (s : State) :
    (edge e entry s).lif.tx = s.lif.tx := by simp [edge]

@[simp] theorem elapse_volume (n : Nat) (s : State) : (elapse n s).volume = s.volume := by simp [elapse]
@[simp] theorem elapse_grd (n : Nat) (s : State) : (elapse n s).grd = s.grd := by simp [elapse]
@[simp] theorem elapse_lmn (n : Nat) (s : State) : (elapse n s).lmn = s.lmn := by simp [elapse]
theorem elapse_sampling (n : Nat) (s : State) :
    (elapse n s).sampling = { s.sampling with timer := runTimer n s.sampling.timer } := by simp [elapse]
@[simp] theorem elapse_settings (n : Nat) (s : State) :
    (elapse n s).settings = s.settings := by simp [elapse]
@[simp] theorem elapse_pending (n : Nat) (s : State) : (elapse n s).pending = s.pending := by simp [elapse]
@[simp] theorem elapse_freeReads (n : Nat) (s : State) :
    (elapse n s).freeReads = s.freeReads := by simp [elapse]
@[simp] theorem elapse_csq_stepMode (n : Nat) (s : State) :
    (elapse n s).csq.stepMode = s.csq.stepMode := by simp [elapse]
@[simp] theorem elapse_lif_mask (n : Nat) (s : State) :
    (elapse n s).lif.mask = s.lif.mask := by simp [elapse]
@[simp] theorem elapse_lif_slots (n : Nat) (s : State) :
    (elapse n s).lif.slots = s.lif.slots := by simp [elapse]
@[simp] theorem elapse_lif_outbox (n : Nat) (s : State) :
    (elapse n s).lif.outbox = s.lif.outbox := by simp [elapse]

@[simp] theorem setRunState_volume (r : RunState) (s : State) :
    (setRunState r s).volume = s.volume := by
  simp only [setRunState]
  repeat' split
  all_goals simp
@[simp] theorem setRunState_grd (r : RunState) (s : State) :
    (setRunState r s).grd = s.grd := by
  simp only [setRunState]
  repeat' split
  all_goals simp
@[simp] theorem setRunState_lmn (r : RunState) (s : State) :
    (setRunState r s).lmn = s.lmn := by
  simp only [setRunState]
  repeat' split
  all_goals simp
@[simp] theorem setRunState_sampling (r : RunState) (s : State) :
    (setRunState r s).sampling = s.sampling := by
  simp only [setRunState]
  repeat' split
  all_goals simp
@[simp] theorem setRunState_light (r : RunState) (s : State) :
    (setRunState r s).light = s.light := by
  simp only [setRunState]
  repeat' split
  all_goals simp
@[simp] theorem setRunState_spu (r : RunState) (s : State) :
    (setRunState r s).spu = s.spu := by
  simp only [setRunState]
  repeat' split
  all_goals simp
@[simp] theorem setRunState_rq (r : RunState) (s : State) :
    (setRunState r s).rq = s.rq := by
  simp only [setRunState]
  repeat' split
  all_goals simp
@[simp] theorem setRunState_settings (r : RunState) (s : State) :
    (setRunState r s).settings = s.settings := by
  simp only [setRunState]
  repeat' split
  all_goals simp
@[simp] theorem setRunState_sto (r : RunState) (s : State) :
    (setRunState r s).sto = s.sto := by
  simp only [setRunState]
  repeat' split
  all_goals simp
@[simp] theorem setRunState_pending (r : RunState) (s : State) :
    (setRunState r s).pending = s.pending := by
  simp only [setRunState]
  repeat' split
  all_goals simp
@[simp] theorem setRunState_freeReads (r : RunState) (s : State) :
    (setRunState r s).freeReads = s.freeReads := by
  simp only [setRunState]
  repeat' split
  all_goals simp
@[simp] theorem setRunState_csq_stepMode (r : RunState) (s : State) :
    (setRunState r s).csq.stepMode = s.csq.stepMode := by
  simp only [setRunState]
  repeat' split
  all_goals simp
@[simp] theorem setRunState_cth_timeBase (r : RunState) (s : State) :
    (setRunState r s).cth.timeBase = s.cth.timeBase := by
  simp only [setRunState]
  repeat' split
  all_goals simp
@[simp] theorem setRunState_lif_mask (r : RunState) (s : State) :
    (setRunState r s).lif.mask = s.lif.mask := by
  simp only [setRunState]
  repeat' split
  all_goals simp
@[simp] theorem setRunState_lif_slots (r : RunState) (s : State) :
    (setRunState r s).lif.slots = s.lif.slots := by
  simp only [setRunState]
  repeat' split
  all_goals simp
@[simp] theorem setRunState_lif_outbox (r : RunState) (s : State) :
    (setRunState r s).lif.outbox = s.lif.outbox := by
  simp only [setRunState]
  repeat' split
  all_goals simp
@[simp] theorem setRunState_lif_tx (r : RunState) (s : State) :
    (setRunState r s).lif.tx = s.lif.tx := by
  simp only [setRunState]
  repeat' split
  all_goals simp

@[simp] theorem enterHeld_volume (reasons : Reasons) (point : ResumePoint) (s : State) :
    (enterHeld reasons point s).volume = s.volume := by simp [enterHeld]
@[simp] theorem enterHeld_grd (reasons : Reasons) (point : ResumePoint) (s : State) :
    (enterHeld reasons point s).grd = s.grd := by simp [enterHeld]
@[simp] theorem enterHeld_lmn (reasons : Reasons) (point : ResumePoint) (s : State) :
    (enterHeld reasons point s).lmn = s.lmn := by simp [enterHeld]
@[simp] theorem enterHeld_sampling (reasons : Reasons) (point : ResumePoint) (s : State) :
    (enterHeld reasons point s).sampling = s.sampling := by simp [enterHeld]
@[simp] theorem enterHeld_light (reasons : Reasons) (point : ResumePoint) (s : State) :
    (enterHeld reasons point s).light = s.light := by simp [enterHeld]
@[simp] theorem enterHeld_spu (reasons : Reasons) (point : ResumePoint) (s : State) :
    (enterHeld reasons point s).spu = s.spu := by simp [enterHeld]
@[simp] theorem enterHeld_rq (reasons : Reasons) (point : ResumePoint) (s : State) :
    (enterHeld reasons point s).rq = s.rq := by simp [enterHeld]
@[simp] theorem enterHeld_settings (reasons : Reasons) (point : ResumePoint) (s : State) :
    (enterHeld reasons point s).settings = s.settings := by simp [enterHeld]
@[simp] theorem enterHeld_sto (reasons : Reasons) (point : ResumePoint) (s : State) :
    (enterHeld reasons point s).sto = s.sto := by simp [enterHeld]
@[simp] theorem enterHeld_pending (reasons : Reasons) (point : ResumePoint) (s : State) :
    (enterHeld reasons point s).pending = s.pending := by simp [enterHeld]
@[simp] theorem enterHeld_freeReads (reasons : Reasons) (point : ResumePoint) (s : State) :
    (enterHeld reasons point s).freeReads = s.freeReads := by simp [enterHeld]
@[simp] theorem enterHeld_csq_stepMode (reasons : Reasons) (point : ResumePoint) (s : State) :
    (enterHeld reasons point s).csq.stepMode = s.csq.stepMode := by simp [enterHeld]
@[simp] theorem enterHeld_cth_timeBase (reasons : Reasons) (point : ResumePoint) (s : State) :
    (enterHeld reasons point s).cth.timeBase = s.cth.timeBase := by simp [enterHeld]
@[simp] theorem enterHeld_lif_mask (reasons : Reasons) (point : ResumePoint) (s : State) :
    (enterHeld reasons point s).lif.mask = s.lif.mask := by simp [enterHeld]
@[simp] theorem enterHeld_lif_slots (reasons : Reasons) (point : ResumePoint) (s : State) :
    (enterHeld reasons point s).lif.slots = s.lif.slots := by simp [enterHeld]
@[simp] theorem enterHeld_lif_outbox (reasons : Reasons) (point : ResumePoint) (s : State) :
    (enterHeld reasons point s).lif.outbox = s.lif.outbox := by simp [enterHeld]
@[simp] theorem enterHeld_lif_tx (reasons : Reasons) (point : ResumePoint) (s : State) :
    (enterHeld reasons point s).lif.tx = s.lif.tx := by simp [enterHeld]

@[simp] theorem endRun_volume (s : State) : (endRun s).volume = s.volume := by simp [endRun]
@[simp] theorem endRun_grd (s : State) : (endRun s).grd = s.grd := by simp [endRun]
@[simp] theorem endRun_lmn (s : State) : (endRun s).lmn = s.lmn := by simp [endRun]
@[simp] theorem endRun_sampling (s : State) : (endRun s).sampling = s.sampling := by simp [endRun]
@[simp] theorem endRun_light (s : State) : (endRun s).light = s.light := by simp [endRun]
@[simp] theorem endRun_spu (s : State) : (endRun s).spu = s.spu := by simp [endRun]
@[simp] theorem endRun_rq (s : State) : (endRun s).rq = s.rq := by simp [endRun]
@[simp] theorem endRun_settings (s : State) : (endRun s).settings = s.settings := by simp [endRun]
@[simp] theorem endRun_sto (s : State) : (endRun s).sto = s.sto := by simp [endRun]
@[simp] theorem endRun_pending (s : State) : (endRun s).pending = s.pending := by simp [endRun]
@[simp] theorem endRun_freeReads (s : State) : (endRun s).freeReads = s.freeReads := by simp [endRun]
@[simp] theorem endRun_csq_stepMode (s : State) :
    (endRun s).csq.stepMode = s.csq.stepMode := by simp [endRun]
@[simp] theorem endRun_cth_timeBase (s : State) :
    (endRun s).cth.timeBase = s.cth.timeBase := by simp [endRun]
@[simp] theorem endRun_lif_mask (s : State) : (endRun s).lif.mask = s.lif.mask := by simp [endRun]
@[simp] theorem endRun_lif_slots (s : State) : (endRun s).lif.slots = s.lif.slots := by simp [endRun]
@[simp] theorem endRun_lif_outbox (s : State) : (endRun s).lif.outbox = s.lif.outbox := by simp [endRun]
@[simp] theorem endRun_lif_tx (s : State) : (endRun s).lif.tx = s.lif.tx := by simp [endRun]

@[simp] theorem beginRun_volume (scope : Scope) (s : State) :
    (beginRun scope s).volume = s.volume := by simp [beginRun]
@[simp] theorem beginRun_grd (scope : Scope) (s : State) :
    (beginRun scope s).grd = s.grd := by simp [beginRun]
@[simp] theorem beginRun_lmn (scope : Scope) (s : State) :
    (beginRun scope s).lmn = s.lmn := by simp [beginRun]
@[simp] theorem beginRun_sampling (scope : Scope) (s : State) :
    (beginRun scope s).sampling = s.sampling := by simp [beginRun]
@[simp] theorem beginRun_light (scope : Scope) (s : State) :
    (beginRun scope s).light = s.light := by simp [beginRun]
@[simp] theorem beginRun_spu (scope : Scope) (s : State) :
    (beginRun scope s).spu = s.spu := by simp [beginRun]
@[simp] theorem beginRun_rq (scope : Scope) (s : State) : (beginRun scope s).rq = s.rq := by simp [beginRun]
@[simp] theorem beginRun_settings (scope : Scope) (s : State) :
    (beginRun scope s).settings = s.settings := by simp [beginRun]
@[simp] theorem beginRun_sto (scope : Scope) (s : State) :
    (beginRun scope s).sto = s.sto := by simp [beginRun]
@[simp] theorem beginRun_pending (scope : Scope) (s : State) :
    (beginRun scope s).pending = s.pending := by simp [beginRun]
@[simp] theorem beginRun_freeReads (scope : Scope) (s : State) :
    (beginRun scope s).freeReads = s.freeReads := by simp [beginRun]
@[simp] theorem beginRun_csq_stepMode (scope : Scope) (s : State) :
    (beginRun scope s).csq.stepMode = s.csq.stepMode := by simp [beginRun]
@[simp] theorem beginRun_cth_timeBase (scope : Scope) (s : State) :
    (beginRun scope s).cth.timeBase = s.cth.timeBase := by simp [beginRun]
@[simp] theorem beginRun_lif_mask (scope : Scope) (s : State) :
    (beginRun scope s).lif.mask = s.lif.mask := by simp [beginRun]
@[simp] theorem beginRun_lif_slots (scope : Scope) (s : State) :
    (beginRun scope s).lif.slots = s.lif.slots := by simp [beginRun]
@[simp] theorem beginRun_lif_outbox (scope : Scope) (s : State) :
    (beginRun scope s).lif.outbox = s.lif.outbox := by simp [beginRun]
@[simp] theorem beginRun_lif_tx (scope : Scope) (s : State) :
    (beginRun scope s).lif.tx = s.lif.tx := by simp [beginRun]

@[simp] theorem restartStale_volume (s : State) : (restartStale s).volume = s.volume := rfl
@[simp] theorem restartStale_csq (s : State) : (restartStale s).csq = s.csq := rfl
@[simp] theorem restartStale_grd (s : State) : (restartStale s).grd = s.grd := rfl
@[simp] theorem restartStale_lmn (s : State) : (restartStale s).lmn = s.lmn := rfl
@[simp] theorem restartStale_sampling (s : State) : (restartStale s).sampling = s.sampling := rfl
@[simp] theorem restartStale_light (s : State) : (restartStale s).light = s.light := rfl
@[simp] theorem restartStale_spu (s : State) : (restartStale s).spu = s.spu := rfl
@[simp] theorem restartStale_cth (s : State) : (restartStale s).cth = s.cth := rfl
@[simp] theorem restartStale_lif (s : State) : (restartStale s).lif = s.lif := rfl
@[simp] theorem restartStale_settings (s : State) : (restartStale s).settings = s.settings := rfl
@[simp] theorem restartStale_sto (s : State) : (restartStale s).sto = s.sto := rfl
@[simp] theorem restartStale_pending (s : State) : (restartStale s).pending = s.pending := rfl
@[simp] theorem restartStale_freeReads (s : State) : (restartStale s).freeReads = s.freeReads := rfl

@[simp] theorem reachHead_volume (r : Record) (s : State) : (reachHead r s).volume = s.volume := rfl
@[simp] theorem reachHead_csq (r : Record) (s : State) : (reachHead r s).csq = s.csq := rfl
@[simp] theorem reachHead_grd (r : Record) (s : State) : (reachHead r s).grd = s.grd := rfl
@[simp] theorem reachHead_lmn (r : Record) (s : State) : (reachHead r s).lmn = s.lmn := rfl
@[simp] theorem reachHead_sampling (r : Record) (s : State) : (reachHead r s).sampling = s.sampling := rfl
@[simp] theorem reachHead_light (r : Record) (s : State) : (reachHead r s).light = s.light := rfl
@[simp] theorem reachHead_spu (r : Record) (s : State) : (reachHead r s).spu = s.spu := rfl
@[simp] theorem reachHead_cth (r : Record) (s : State) : (reachHead r s).cth = s.cth := rfl
@[simp] theorem reachHead_lif (r : Record) (s : State) : (reachHead r s).lif = s.lif := rfl
@[simp] theorem reachHead_settings (r : Record) (s : State) : (reachHead r s).settings = s.settings := rfl
@[simp] theorem reachHead_sto (r : Record) (s : State) : (reachHead r s).sto = s.sto := rfl
@[simp] theorem reachHead_pending (r : Record) (s : State) : (reachHead r s).pending = s.pending := rfl
@[simp] theorem reachHead_freeReads (r : Record) (s : State) :
    (reachHead r s).freeReads = s.freeReads := rfl

@[simp] theorem placeRecord_volume (r : Record) (s : State) :
    (placeRecord r s).volume = s.volume := by
  simp only [placeRecord]
  repeat' split
  all_goals simp
@[simp] theorem placeRecord_csq (r : Record) (s : State) :
    (placeRecord r s).csq = s.csq := by
  simp only [placeRecord]
  repeat' split
  all_goals simp
@[simp] theorem placeRecord_grd (r : Record) (s : State) :
    (placeRecord r s).grd = s.grd := by
  simp only [placeRecord]
  repeat' split
  all_goals simp
@[simp] theorem placeRecord_lmn (r : Record) (s : State) :
    (placeRecord r s).lmn = s.lmn := by
  simp only [placeRecord]
  repeat' split
  all_goals simp
@[simp] theorem placeRecord_sampling (r : Record) (s : State) :
    (placeRecord r s).sampling = s.sampling := by
  simp only [placeRecord]
  repeat' split
  all_goals simp
@[simp] theorem placeRecord_light (r : Record) (s : State) :
    (placeRecord r s).light = s.light := by
  simp only [placeRecord]
  repeat' split
  all_goals simp
@[simp] theorem placeRecord_spu (r : Record) (s : State) :
    (placeRecord r s).spu = s.spu := by
  simp only [placeRecord]
  repeat' split
  all_goals simp
@[simp] theorem placeRecord_cth (r : Record) (s : State) :
    (placeRecord r s).cth = s.cth := by
  simp only [placeRecord]
  repeat' split
  all_goals simp
@[simp] theorem placeRecord_settings (r : Record) (s : State) :
    (placeRecord r s).settings = s.settings := by
  simp only [placeRecord]
  repeat' split
  all_goals simp
@[simp] theorem placeRecord_sto (r : Record) (s : State) :
    (placeRecord r s).sto = s.sto := by
  simp only [placeRecord]
  repeat' split
  all_goals simp
@[simp] theorem placeRecord_pending (r : Record) (s : State) :
    (placeRecord r s).pending = s.pending := by
  simp only [placeRecord]
  repeat' split
  all_goals simp
@[simp] theorem placeRecord_freeReads (r : Record) (s : State) :
    (placeRecord r s).freeReads = s.freeReads := by
  simp only [placeRecord]
  repeat' split
  all_goals simp
@[simp] theorem placeRecord_lif_mask (r : Record) (s : State) :
    (placeRecord r s).lif.mask = s.lif.mask := by
  simp only [placeRecord]
  repeat' split
  all_goals simp
@[simp] theorem placeRecord_lif_slots (r : Record) (s : State) :
    (placeRecord r s).lif.slots = s.lif.slots := by
  simp only [placeRecord]
  repeat' split
  all_goals simp
@[simp] theorem placeRecord_lif_outbox (r : Record) (s : State) :
    (placeRecord r s).lif.outbox = s.lif.outbox := by
  simp only [placeRecord]
  repeat' split
  all_goals simp
@[simp] theorem placeRecord_lif_tx (r : Record) (s : State) :
    (placeRecord r s).lif.tx = s.lif.tx := by
  simp only [placeRecord]
  repeat' split
  all_goals simp

@[simp] theorem handOver_volume (flags : BitVec 16) (body : RecordBody) (s : State) :
    (handOver flags body s).volume = s.volume := by simp [handOver]
@[simp] theorem handOver_csq (flags : BitVec 16) (body : RecordBody) (s : State) :
    (handOver flags body s).csq = s.csq := by simp [handOver]
@[simp] theorem handOver_grd (flags : BitVec 16) (body : RecordBody) (s : State) :
    (handOver flags body s).grd = s.grd := by simp [handOver]
@[simp] theorem handOver_lmn (flags : BitVec 16) (body : RecordBody) (s : State) :
    (handOver flags body s).lmn = s.lmn := by simp [handOver]
@[simp] theorem handOver_sampling (flags : BitVec 16) (body : RecordBody) (s : State) :
    (handOver flags body s).sampling = s.sampling := by simp [handOver]
@[simp] theorem handOver_light (flags : BitVec 16) (body : RecordBody) (s : State) :
    (handOver flags body s).light = s.light := by simp [handOver]
@[simp] theorem handOver_spu (flags : BitVec 16) (body : RecordBody) (s : State) :
    (handOver flags body s).spu = s.spu := by simp [handOver]
@[simp] theorem handOver_cth (flags : BitVec 16) (body : RecordBody) (s : State) :
    (handOver flags body s).cth = s.cth := by simp [handOver]
@[simp] theorem handOver_settings (flags : BitVec 16) (body : RecordBody) (s : State) :
    (handOver flags body s).settings = s.settings := by simp [handOver]
@[simp] theorem handOver_sto (flags : BitVec 16) (body : RecordBody) (s : State) :
    (handOver flags body s).sto = s.sto := by simp [handOver]
@[simp] theorem handOver_pending (flags : BitVec 16) (body : RecordBody) (s : State) :
    (handOver flags body s).pending = s.pending := by simp [handOver]
@[simp] theorem handOver_freeReads (flags : BitVec 16) (body : RecordBody) (s : State) :
    (handOver flags body s).freeReads = s.freeReads := by simp [handOver]
@[simp] theorem handOver_lif_mask (flags : BitVec 16) (body : RecordBody) (s : State) :
    (handOver flags body s).lif.mask = s.lif.mask := by simp [handOver]
@[simp] theorem handOver_lif_slots (flags : BitVec 16) (body : RecordBody) (s : State) :
    (handOver flags body s).lif.slots = s.lif.slots := by simp [handOver]
@[simp] theorem handOver_lif_outbox (flags : BitVec 16) (body : RecordBody) (s : State) :
    (handOver flags body s).lif.outbox = s.lif.outbox := by simp [handOver]
@[simp] theorem handOver_lif_tx (flags : BitVec 16) (body : RecordBody) (s : State) :
    (handOver flags body s).lif.tx = s.lif.tx := by simp [handOver]

@[simp] theorem pump_volume (s : State) :
    (pump s).volume = s.volume := by
  simp only [pump]
  repeat' split
  all_goals simp
@[simp] theorem pump_csq (s : State) :
    (pump s).csq = s.csq := by
  simp only [pump]
  repeat' split
  all_goals simp
@[simp] theorem pump_grd (s : State) :
    (pump s).grd = s.grd := by
  simp only [pump]
  repeat' split
  all_goals simp
@[simp] theorem pump_lmn (s : State) :
    (pump s).lmn = s.lmn := by
  simp only [pump]
  repeat' split
  all_goals simp
@[simp] theorem pump_sampling (s : State) :
    (pump s).sampling = s.sampling := by
  simp only [pump]
  repeat' split
  all_goals simp
@[simp] theorem pump_light (s : State) :
    (pump s).light = s.light := by
  simp only [pump]
  repeat' split
  all_goals simp
@[simp] theorem pump_spu (s : State) :
    (pump s).spu = s.spu := by
  simp only [pump]
  repeat' split
  all_goals simp
@[simp] theorem pump_rq (s : State) :
    (pump s).rq = s.rq := by
  simp only [pump]
  repeat' split
  all_goals simp
@[simp] theorem pump_cth (s : State) :
    (pump s).cth = s.cth := by
  simp only [pump]
  repeat' split
  all_goals simp
@[simp] theorem pump_settings (s : State) :
    (pump s).settings = s.settings := by
  simp only [pump]
  repeat' split
  all_goals simp
@[simp] theorem pump_sto (s : State) :
    (pump s).sto = s.sto := by
  simp only [pump]
  repeat' split
  all_goals simp
@[simp] theorem pump_pending (s : State) :
    (pump s).pending = s.pending := by
  simp only [pump]
  repeat' split
  all_goals simp
@[simp] theorem pump_freeReads (s : State) :
    (pump s).freeReads = s.freeReads := by
  simp only [pump]
  repeat' split
  all_goals simp
@[simp] theorem pump_lif_mask (s : State) :
    (pump s).lif.mask = s.lif.mask := by
  unfold pump
  dsimp only
  repeat' split
  all_goals first | rfl | simp | simp_all
@[simp] theorem pump_lif_slots (s : State) :
    (pump s).lif.slots = s.lif.slots := by
  unfold pump
  dsimp only
  repeat' split
  all_goals first | rfl | simp | simp_all
@[simp] theorem pump_lif_outbox (s : State) :
    (pump s).lif.outbox = s.lif.outbox := by
  unfold pump
  dsimp only
  repeat' split
  all_goals first | rfl | simp | simp_all

@[simp] theorem finish_volume (before after : State) :
    (finish before after).volume = after.volume := by unfold finish; split <;> simp
@[simp] theorem finish_csq (before after : State) :
    (finish before after).csq = after.csq := by unfold finish; split <;> simp
@[simp] theorem finish_grd (before after : State) :
    (finish before after).grd = after.grd := by unfold finish; split <;> simp
@[simp] theorem finish_lmn (before after : State) :
    (finish before after).lmn = after.lmn := by unfold finish; split <;> simp
@[simp] theorem finish_sampling (before after : State) :
    (finish before after).sampling = after.sampling := by unfold finish; split <;> simp
@[simp] theorem finish_light (before after : State) :
    (finish before after).light = after.light := by unfold finish; split <;> simp
@[simp] theorem finish_spu (before after : State) :
    (finish before after).spu = after.spu := by unfold finish; split <;> simp
@[simp] theorem finish_rq (before after : State) :
    (finish before after).rq = after.rq := by unfold finish; split <;> simp
@[simp] theorem finish_settings (before after : State) :
    (finish before after).settings = after.settings := by unfold finish; split <;> simp
@[simp] theorem finish_sto (before after : State) :
    (finish before after).sto = after.sto := by unfold finish; split <;> simp
@[simp] theorem finish_pending (before after : State) :
    (finish before after).pending = after.pending := by unfold finish; split <;> simp
@[simp] theorem finish_freeReads (before after : State) :
    (finish before after).freeReads = after.freeReads := by unfold finish; split <;> simp
@[simp] theorem finish_cth_timeBase (before after : State) :
    (finish before after).cth.timeBase = after.cth.timeBase := by unfold finish; split <;> simp
@[simp] theorem finish_lif_mask (before after : State) :
    (finish before after).lif.mask = after.lif.mask := by unfold finish; split <;> simp
@[simp] theorem finish_lif_slots (before after : State) :
    (finish before after).lif.slots = after.lif.slots := by unfold finish; split <;> simp
@[simp] theorem finish_lif_outbox (before after : State) :
    (finish before after).lif.outbox = after.lif.outbox := by unfold finish; split <;> simp

/-! ### What the shared operations do -/

/-- ORing a set bit in changes nothing. -/
theorem or_shiftLeft_of_set (k : Nat) (x : BitVec 32) (h : x.getLsbD k = true) :
    x ||| 1#32 <<< k = x := by
  apply BitVec.eq_of_getLsbD_eq
  intro i hi
  by_cases e : i = k
  · subst e; simp [h]
  · have e' : ¬ (i - k = 0 ∧ k ≤ i) := by omega
    simp only [BitVec.getLsbD_or, BitVec.getLsbD_shiftLeft, BitVec.getLsbD_one]
    by_cases g : i < k
    · simp [g]
    · simp [g, show i - k ≠ 0 by omega]

/-- A condition that is set stays as it is under an OR with its condition word. -/
theorem latched_or_condWord (c : Cond) (x : BitVec 32) (h : x.getLsbD (condBit c) = true) :
    x ||| condWord c = x := or_shiftLeft_of_set _ x h

/-- Setting a condition: its bit is set, and a notice falls due where it newly stands and is enabled
(R146, R147). -/
theorem setCond_lif (c : Cond) (s : State) :
    (setCond c s).lif = { s.lif with
      latched := s.lif.latched ||| condWord c
      noticeDue := s.lif.noticeDue || (!latchedNow c s && enabledNow c s) } := by
  unfold setCond
  by_cases h : latchedNow c s
  · simp [h, latched_or_condWord c s.lif.latched h]
  · by_cases g : s.lif.mask.getLsbD (condBit c) <;> simp [h, g, gain, enabledNow]

@[simp] theorem setCond_latched (c : Cond) (s : State) :
    (setCond c s).lif.latched = s.lif.latched ||| condWord c := by simp [setCond_lif]

/-- A rise of a level condition makes a notice due where it is enabled, and nothing more (R146). -/
theorem riseLevel_lif (c : Cond) (s : State) :
    (riseLevel c s).lif = { s.lif with noticeDue := s.lif.noticeDue || enabledNow c s } := by
  by_cases g : s.lif.mask.getLsbD (condBit c) <;> simp [riseLevel, g, gain, enabledNow]

@[simp] theorem riseLevel_latched (c : Cond) (s : State) :
    (riseLevel c s).lif.latched = s.lif.latched := by simp [riseLevel_lif]

/-- A counting step: both counters are put through the function (R140). -/
@[simp] theorem updateCounters_cth (f : Counter → Counter × Bool) (s : State) :
    (updateCounters f s).cth = { s.cth with a := (f s.cth.a).1, b := (f s.cth.b).1 } := by
  simp only [updateCounters]; split <;> simp

/-- A counting step changes the link's side only by COUNTER_OVERFLOW, and only on a wrap (R140). -/
theorem updateCounters_lif (f : Counter → Counter × Bool) (s : State) :
    (updateCounters f s).lif = s.lif ∨
    (updateCounters f s).lif = { s.lif with
      latched := s.lif.latched ||| condWord .counterOverflow
      noticeDue := s.lif.noticeDue || (!latchedNow .counterOverflow s && enabledNow .counterOverflow s) } := by
  simp only [updateCounters]; split
  · right; simp [setCond_lif, latchedNow, enabledNow]
  · left; rfl

/-- An event reported: the tally of its scope and the counters that count it (R137, R138). -/
theorem event_cth (e : CounterEvent) (s : State) :
    (event e s).cth = { s.cth with
      a := (bumpIf (s.cth.a.event == e && (!isScoped e || s.cth.a.threshold == 0)) s.cth.a).1
      b := (bumpIf (s.cth.b.event == e && (!isScoped e || s.cth.b.threshold == 0)) s.cth.b).1
      tallies := tallyEvent e s.cth.tallies } := by simp [event]

/-- An entry or exit of a duration condition: the counters with its edge set that count it (R139). -/
theorem edge_cth (e : CounterEvent) (entry : Bool) (s : State) :
    (edge e entry s).cth = { s.cth with
      a := (bumpIf (s.cth.a.event == e && s.cth.a.edge && (entry != s.cth.a.invert)) s.cth.a).1
      b := (bumpIf (s.cth.b.event == e && s.cth.b.edge && (entry != s.cth.b.invert)) s.cth.b).1 } := by
  simp [edge]

/-- A judgement of a closing scope: the counters of its event with a threshold (R138). -/
theorem judge_cth (e : CounterEvent) (tally : Nat) (s : State) :
    (judge e tally s).cth = { s.cth with
      a := (bumpIf (s.cth.a.event == e && decide (1 ≤ s.cth.a.threshold) &&
        (decide (s.cth.a.threshold ≤ tally) != s.cth.a.invert)) s.cth.a).1
      b := (bumpIf (s.cth.b.event == e && decide (1 ≤ s.cth.b.threshold) &&
        (decide (s.cth.b.threshold ≤ tally) != s.cth.b.invert)) s.cth.b).1 } := by
  simp [judge]

/-- A change of the run state changes nothing else of CSQ. -/
@[simp] theorem setRunState_csq (r : RunState) (s : State) :
    (setRunState r s).csq = { s.csq with runState := r } := by
  simp only [setRunState]
  split
  · rename_i h; simp at h; subst h; rfl
  · cases h : s.csq.runState <;> cases r <;> simp_all

/-- A hold: HELD, with its reasons and resume point (R62). -/
@[simp] theorem enterHeld_csq (reasons : Reasons) (point : ResumePoint) (s : State) :
    (enterHeld reasons point s).csq =
      { s.csq with runState := .held, phase := .none, reasons := reasons, resumePoint := some point } := by
  simp [enterHeld]

/-- The end of a run: ARMED, and nothing of the run left (R38, R63). -/
@[simp] theorem endRun_csq (s : State) :
    (endRun s).csq = { s.csq with
      runState := .armed, scope := none, phase := .none, reasons := Reasons.empty, resumePoint := none,
      setAside := none, haltPending := false, passOnce := false, awaiting := none } := by simp [endRun]

/-- The start of a run (R38). -/
@[simp] theorem beginRun_csq (scope : Scope) (s : State) :
    (beginRun scope s).csq = { s.csq with runState := .running, scope := some scope } := by
  simp [beginRun]

/-- A record handed over: it is numbered and stamped, and stands at the tail of the FIFO or, with the FIFO
full, in the holding slot; in an empty FIFO it reaches the head (R123, R126, R132, R133). -/
theorem handOver_rq (flags : BitVec 16) (body : RecordBody) (s : State) :
    (handOver flags body s).rq =
      let r : Record := { number := s.rq.nextNumber, stamp := s.cth.timeBase, flags := flags, body := body }
      let q : Rq := { s.rq with nextNumber := wrapSucc 32 s.rq.nextNumber }
      if s.rq.fifo.length < s.settings.capacity then
        if s.rq.fifo = [] then
          { q with fifo := [r], accumulated := s.rq.accumulated ||| flags,
                   staleTimer := if s.settings.staleInterval = 0 then none
                     else some (startTimer (s.settings.staleInterval * 1000000)) }
        else { q with fifo := s.rq.fifo ++ [r] }
      else { q with holding := some r } := by
  by_cases h : s.rq.fifo.length < s.settings.capacity
  · by_cases g : s.rq.fifo = []
    · rw [g] at h
      simp [handOver, placeRecord, g, show 0 < s.settings.capacity from h, restartStale, reachHead]
      rfl
    · simp [handOver, placeRecord, g, h]
  · simp [handOver, placeRecord, h]

/-- The close of an event leaves of CTH all but the counters, which QUEUE_WAIT may move (R139). -/
theorem finish_cth (before after : State) :
    (finish before after).cth =
      if queueWaiting before = queueWaiting after then after.cth
      else (edge .queueWait (queueWaiting after) after).cth := by
  simp only [finish, pump_cth]; split <;> split <;> simp_all

/-- What the transmitter takes up changes nothing of the link but the transmitter itself, the marks of what
is seen since, and the notice that was due (R145, R146). -/
theorem pump_lif (s : State) :
    ∃ tx noticeDue dropSince checkSince, (pump s).lif =
      { s.lif with tx := tx, noticeDue := noticeDue, dropSince := dropSince, checkSince := checkSince } := by
  unfold pump
  split
  · exact ⟨_, _, _, _, rfl⟩
  · split
    · exact ⟨_, _, _, _, rfl⟩
    · split
      · exact ⟨_, _, _, _, rfl⟩
      · exact ⟨_, _, _, _, rfl⟩

/-- The close of an event leaves of LIF all but the transmitter, the notice due, the marks seen since, and
COUNTER_OVERFLOW (R139, R140, R145, R146). -/
theorem finish_lif (before after : State) :
    ∃ tx noticeDue dropSince checkSince latched,
      (latched = after.lif.latched ∨ latched = after.lif.latched ||| condWord .counterOverflow) ∧
      (finish before after).lif =
        { after.lif with tx := tx, noticeDue := noticeDue, dropSince := dropSince,
                         checkSince := checkSince, latched := latched } := by
  simp only [finish]
  split
  · obtain ⟨a, b, c, d, h⟩ := pump_lif after
    exact ⟨a, b, c, d, _, .inl rfl, h⟩
  · obtain ⟨a, b, c, d, h⟩ := pump_lif (edge .queueWait (queueWaiting after) after)
    rcases updateCounters_lif (fun k => bumpIf (k.event == .queueWait && k.edge &&
      (queueWaiting after != k.invert)) k) after with e | e
    · exact ⟨a, b, c, d, _, .inl rfl, by rw [h]; simp only [edge, e]⟩
    · exact ⟨a, b, c, d, _, .inr rfl, by rw [h]; simp only [edge, e]⟩

@[simp] theorem finish_mask (before after : State) : (finish before after).lif.mask = after.lif.mask := by
  obtain ⟨_, _, _, _, _, _, h⟩ := finish_lif before after; rw [h]

/-- The handling of a request always answers a next state. -/
theorem respond_next (c : Instr) (s : State) (a : Answer) :
    respond c s a = .next (finish s (a.state.modLif
      (addReply (.request c) (requestKind c + 0x80#8) a.result a.content (c == .reset)))) := rfl

@[simp] theorem addReply_latched (d : Decoded) (kind : Byte) (r : Result) (content : List Byte)
    (resets : Bool) (l : Lif) : (addReply d kind r content resets l).latched = l.latched := rfl
@[simp] theorem addReply_mask (d : Decoded) (kind : Byte) (r : Result) (content : List Byte)
    (resets : Bool) (l : Lif) : (addReply d kind r content resets l).mask = l.mask := rfl

/-! ### What the passing of time leaves -/

theorem elapse_csq (n : Nat) (s : State) :
    (elapse n s).csq = { s.csq with
      phaseTimer := s.csq.phaseTimer.map (runTimer n)
      settleTimer := s.csq.settleTimer.map (runTimer n)
      settleLimit := s.csq.settleLimit.map (runTimer n) } := by simp [elapse]
theorem elapse_light (n : Nat) (s : State) : (elapse n s).light = elapseLight n s.light := by
  simp [elapse]
theorem elapse_spu (n : Nat) (s : State) :
    (elapse n s).spu = { s.spu with
      pass := s.spu.pass.map fun p => { p with step := elapseStep n p.step }
      left := elapsePort n s.spu.left
      right := elapsePort n s.spu.right } := by simp [elapse]
theorem elapse_rq (n : Nat) (s : State) :
    (elapse n s).rq = { s.rq with staleTimer := s.rq.staleTimer.map (runTimer n) } := by simp [elapse]
theorem elapse_cth (n : Nat) (s : State) :
    (elapse n s).cth = { s.cth with
      timeBase := (s.cth.timeBase + n) % 2 ^ 48
      a := (countTime s n s.cth.a).1
      b := (countTime s n s.cth.b).1 } := by simp [elapse]
theorem elapse_sto (n : Nat) (s : State) :
    (elapse n s).sto = { s.sto with
      save := s.sto.save.map fun v => { v with timer := runTimer n v.timer } } := by simp [elapse]
@[simp] theorem elapse_mask (n : Nat) (s : State) : (elapse n s).lif.mask = s.lif.mask := by
  simp [elapse]
theorem elapse_latched (n : Nat) (s : State) :
    (elapse n s).lif.latched = s.lif.latched ∨
    (elapse n s).lif.latched = s.lif.latched ||| condWord .counterOverflow := by
  rcases updateCounters_lif (countTime s n) s with e | e
  · left; simp [elapse, e]
  · right; simp [elapse, e]

end Sys2Proof.Machine
end

