-- ==== Sys2Proof/Laws/Light.lean ====
section
/-! SUPPORT. What the operations of light and dose and the run's decisions leave alone, field by field. -/

namespace Sys2Proof.Machine

@[simp] theorem postLight_csq (lit : Eight Bool) (drives : Eight Nat) (t : Nat) (s : State) :
    (postLight lit drives t s).csq = s.csq := rfl
@[simp] theorem postLight_grd (lit : Eight Bool) (drives : Eight Nat) (t : Nat) (s : State) :
    (postLight lit drives t s).grd = s.grd := rfl
@[simp] theorem postLight_lmn (lit : Eight Bool) (drives : Eight Nat) (t : Nat) (s : State) :
    (postLight lit drives t s).lmn = s.lmn := rfl
@[simp] theorem postLight_sampling (lit : Eight Bool) (drives : Eight Nat) (t : Nat) (s : State) :
    (postLight lit drives t s).sampling = s.sampling := rfl
@[simp] theorem postLight_light (lit : Eight Bool) (drives : Eight Nat) (t : Nat) (s : State) :
    (postLight lit drives t s).light = s.light := rfl
@[simp] theorem postLight_spu (lit : Eight Bool) (drives : Eight Nat) (t : Nat) (s : State) :
    (postLight lit drives t s).spu = s.spu := rfl
@[simp] theorem postLight_rq (lit : Eight Bool) (drives : Eight Nat) (t : Nat) (s : State) :
    (postLight lit drives t s).rq = s.rq := rfl
@[simp] theorem postLight_cth (lit : Eight Bool) (drives : Eight Nat) (t : Nat) (s : State) :
    (postLight lit drives t s).cth = s.cth := rfl
@[simp] theorem postLight_lif (lit : Eight Bool) (drives : Eight Nat) (t : Nat) (s : State) :
    (postLight lit drives t s).lif = s.lif := rfl
@[simp] theorem postLight_settings (lit : Eight Bool) (drives : Eight Nat) (t : Nat) (s : State) :
    (postLight lit drives t s).settings = s.settings := rfl
@[simp] theorem postLight_sto (lit : Eight Bool) (drives : Eight Nat) (t : Nat) (s : State) :
    (postLight lit drives t s).sto = s.sto := rfl
@[simp] theorem postLight_pending (lit : Eight Bool) (drives : Eight Nat) (t : Nat) (s : State) :
    (postLight lit drives t s).pending = s.pending := rfl
@[simp] theorem postLight_freeReads (lit : Eight Bool) (drives : Eight Nat) (t : Nat) (s : State) :
    (postLight lit drives t s).freeReads = s.freeReads := rfl

@[simp] theorem closePeriod_csq (p : Preview) (s : State) : (closePeriod p s).csq = s.csq := rfl
@[simp] theorem closePeriod_grd (p : Preview) (s : State) : (closePeriod p s).grd = s.grd := rfl
@[simp] theorem closePeriod_lmn (p : Preview) (s : State) : (closePeriod p s).lmn = s.lmn := rfl
@[simp] theorem closePeriod_sampling (p : Preview) (s : State) : (closePeriod p s).sampling = s.sampling := rfl
@[simp] theorem closePeriod_light (p : Preview) (s : State) : (closePeriod p s).light = s.light := rfl
@[simp] theorem closePeriod_spu (p : Preview) (s : State) : (closePeriod p s).spu = s.spu := rfl
@[simp] theorem closePeriod_rq (p : Preview) (s : State) : (closePeriod p s).rq = s.rq := rfl
@[simp] theorem closePeriod_cth (p : Preview) (s : State) : (closePeriod p s).cth = s.cth := rfl
@[simp] theorem closePeriod_lif (p : Preview) (s : State) : (closePeriod p s).lif = s.lif := rfl
@[simp] theorem closePeriod_settings (p : Preview) (s : State) :
    (closePeriod p s).settings = s.settings := rfl
@[simp] theorem closePeriod_sto (p : Preview) (s : State) : (closePeriod p s).sto = s.sto := rfl
@[simp] theorem closePeriod_pending (p : Preview) (s : State) : (closePeriod p s).pending = s.pending := rfl
@[simp] theorem closePeriod_freeReads (p : Preview) (s : State) :
    (closePeriod p s).freeReads = s.freeReads := rfl

@[simp] theorem leavePreview_volume (s : State) :
    (leavePreview s).volume = s.volume := by simp [leavePreview]
@[simp] theorem leavePreview_csq (s : State) : (leavePreview s).csq = s.csq := by simp [leavePreview]
@[simp] theorem leavePreview_grd (s : State) : (leavePreview s).grd = s.grd := by simp [leavePreview]
@[simp] theorem leavePreview_lmn (s : State) : (leavePreview s).lmn = s.lmn := by simp [leavePreview]
@[simp] theorem leavePreview_sampling (s : State) : (leavePreview s).sampling = s.sampling := by simp [leavePreview]
@[simp] theorem leavePreview_spu (s : State) : (leavePreview s).spu = s.spu := by simp [leavePreview]
@[simp] theorem leavePreview_rq (s : State) : (leavePreview s).rq = s.rq := by simp [leavePreview]
@[simp] theorem leavePreview_settings (s : State) :
    (leavePreview s).settings = s.settings := by simp [leavePreview]
@[simp] theorem leavePreview_sto (s : State) : (leavePreview s).sto = s.sto := by simp [leavePreview]
@[simp] theorem leavePreview_pending (s : State) :
    (leavePreview s).pending = s.pending := by simp [leavePreview]
@[simp] theorem leavePreview_freeReads (s : State) :
    (leavePreview s).freeReads = s.freeReads := by simp [leavePreview]
@[simp] theorem leavePreview_cth_timeBase (s : State) :
    (leavePreview s).cth.timeBase = s.cth.timeBase := by simp [leavePreview]
@[simp] theorem leavePreview_lif_mask (s : State) :
    (leavePreview s).lif.mask = s.lif.mask := by simp [leavePreview]
@[simp] theorem leavePreview_lif_slots (s : State) :
    (leavePreview s).lif.slots = s.lif.slots := by simp [leavePreview]
@[simp] theorem leavePreview_lif_outbox (s : State) :
    (leavePreview s).lif.outbox = s.lif.outbox := by simp [leavePreview]
@[simp] theorem leavePreview_lif_tx (s : State) :
    (leavePreview s).lif.tx = s.lif.tx := by simp [leavePreview]

@[simp] theorem endPreview_csq (s : State) :
    (endPreview s).csq = s.csq := by unfold endPreview; split <;> simp
@[simp] theorem endPreview_grd (s : State) :
    (endPreview s).grd = s.grd := by unfold endPreview; split <;> simp
@[simp] theorem endPreview_lmn (s : State) :
    (endPreview s).lmn = s.lmn := by unfold endPreview; split <;> simp
@[simp] theorem endPreview_sampling (s : State) :
    (endPreview s).sampling = s.sampling := by unfold endPreview; split <;> simp
@[simp] theorem endPreview_spu (s : State) :
    (endPreview s).spu = s.spu := by unfold endPreview; split <;> simp
@[simp] theorem endPreview_rq (s : State) : (endPreview s).rq = s.rq := by unfold endPreview; split <;> simp
@[simp] theorem endPreview_settings (s : State) :
    (endPreview s).settings = s.settings := by unfold endPreview; split <;> simp
@[simp] theorem endPreview_sto (s : State) :
    (endPreview s).sto = s.sto := by unfold endPreview; split <;> simp
@[simp] theorem endPreview_pending (s : State) :
    (endPreview s).pending = s.pending := by unfold endPreview; split <;> simp
@[simp] theorem endPreview_freeReads (s : State) :
    (endPreview s).freeReads = s.freeReads := by unfold endPreview; split <;> simp
@[simp] theorem endPreview_cth_timeBase (s : State) :
    (endPreview s).cth.timeBase = s.cth.timeBase := by unfold endPreview; split <;> simp
@[simp] theorem endPreview_lif_mask (s : State) :
    (endPreview s).lif.mask = s.lif.mask := by unfold endPreview; split <;> simp
@[simp] theorem endPreview_lif_slots (s : State) :
    (endPreview s).lif.slots = s.lif.slots := by unfold endPreview; split <;> simp
@[simp] theorem endPreview_lif_outbox (s : State) :
    (endPreview s).lif.outbox = s.lif.outbox := by unfold endPreview; split <;> simp
@[simp] theorem endPreview_lif_tx (s : State) :
    (endPreview s).lif.tx = s.lif.tx := by unfold endPreview; split <;> simp

@[simp] theorem startPeriod_volume (lit : Eight Bool) (drives : Eight Nat) (limit limitLeft : Nat) (s : State) :
    (startPeriod lit drives limit limitLeft s).volume = s.volume := by
  simp only [startPeriod]
  repeat' split
  all_goals simp
@[simp] theorem startPeriod_csq (lit : Eight Bool) (drives : Eight Nat) (limit limitLeft : Nat) (s : State) :
    (startPeriod lit drives limit limitLeft s).csq = s.csq := by
  simp only [startPeriod]
  repeat' split
  all_goals simp
@[simp] theorem startPeriod_grd (lit : Eight Bool) (drives : Eight Nat) (limit limitLeft : Nat) (s : State) :
    (startPeriod lit drives limit limitLeft s).grd = s.grd := by
  simp only [startPeriod]
  repeat' split
  all_goals simp
@[simp] theorem startPeriod_lmn (lit : Eight Bool) (drives : Eight Nat) (limit limitLeft : Nat) (s : State) :
    (startPeriod lit drives limit limitLeft s).lmn = s.lmn := by
  simp only [startPeriod]
  repeat' split
  all_goals simp
@[simp] theorem startPeriod_sampling (lit : Eight Bool) (drives : Eight Nat) (limit limitLeft : Nat) (s : State) :
    (startPeriod lit drives limit limitLeft s).sampling = s.sampling := by
  simp only [startPeriod]
  repeat' split
  all_goals simp
@[simp] theorem startPeriod_spu (lit : Eight Bool) (drives : Eight Nat) (limit limitLeft : Nat) (s : State) :
    (startPeriod lit drives limit limitLeft s).spu = s.spu := by
  simp only [startPeriod]
  repeat' split
  all_goals simp
@[simp] theorem startPeriod_rq (lit : Eight Bool) (drives : Eight Nat) (limit limitLeft : Nat) (s : State) :
    (startPeriod lit drives limit limitLeft s).rq = s.rq := by
  simp only [startPeriod]
  repeat' split
  all_goals simp
@[simp] theorem startPeriod_settings (lit : Eight Bool) (drives : Eight Nat) (limit limitLeft : Nat) (s : State) :
    (startPeriod lit drives limit limitLeft s).settings = s.settings := by
  simp only [startPeriod]
  repeat' split
  all_goals simp
@[simp] theorem startPeriod_sto (lit : Eight Bool) (drives : Eight Nat) (limit limitLeft : Nat) (s : State) :
    (startPeriod lit drives limit limitLeft s).sto = s.sto := by
  simp only [startPeriod]
  repeat' split
  all_goals simp
@[simp] theorem startPeriod_pending (lit : Eight Bool) (drives : Eight Nat) (limit limitLeft : Nat) (s : State) :
    (startPeriod lit drives limit limitLeft s).pending = s.pending := by
  simp only [startPeriod]
  repeat' split
  all_goals simp
@[simp] theorem startPeriod_freeReads (lit : Eight Bool) (drives : Eight Nat) (limit limitLeft : Nat) (s : State) :
    (startPeriod lit drives limit limitLeft s).freeReads = s.freeReads := by
  simp only [startPeriod]
  repeat' split
  all_goals simp
@[simp] theorem startPeriod_cth_timeBase (lit : Eight Bool) (drives : Eight Nat) (limit limitLeft : Nat) (s : State) :
    (startPeriod lit drives limit limitLeft s).cth.timeBase = s.cth.timeBase := by
  simp only [startPeriod]
  repeat' split
  all_goals simp
@[simp] theorem startPeriod_lif_mask (lit : Eight Bool) (drives : Eight Nat) (limit limitLeft : Nat) (s : State) :
    (startPeriod lit drives limit limitLeft s).lif.mask = s.lif.mask := by
  simp only [startPeriod]
  repeat' split
  all_goals simp
@[simp] theorem startPeriod_lif_slots (lit : Eight Bool) (drives : Eight Nat) (limit limitLeft : Nat) (s : State) :
    (startPeriod lit drives limit limitLeft s).lif.slots = s.lif.slots := by
  simp only [startPeriod]
  repeat' split
  all_goals simp
@[simp] theorem startPeriod_lif_outbox (lit : Eight Bool) (drives : Eight Nat) (limit limitLeft : Nat) (s : State) :
    (startPeriod lit drives limit limitLeft s).lif.outbox = s.lif.outbox := by
  simp only [startPeriod]
  repeat' split
  all_goals simp
@[simp] theorem startPeriod_lif_tx (lit : Eight Bool) (drives : Eight Nat) (limit limitLeft : Nat) (s : State) :
    (startPeriod lit drives limit limitLeft s).lif.tx = s.lif.tx := by
  simp only [startPeriod]
  repeat' split
  all_goals simp

@[simp] theorem allDark_csq (s : State) : (allDark s).csq = s.csq := by simp [allDark]
@[simp] theorem allDark_grd (s : State) : (allDark s).grd = s.grd := by simp [allDark]
@[simp] theorem allDark_lmn (s : State) : (allDark s).lmn = s.lmn := by simp [allDark]
@[simp] theorem allDark_sampling (s : State) : (allDark s).sampling = s.sampling := by simp [allDark]
@[simp] theorem allDark_spu (s : State) : (allDark s).spu = s.spu := by simp [allDark]
@[simp] theorem allDark_rq (s : State) : (allDark s).rq = s.rq := by simp [allDark]
@[simp] theorem allDark_settings (s : State) : (allDark s).settings = s.settings := by simp [allDark]
@[simp] theorem allDark_sto (s : State) : (allDark s).sto = s.sto := by simp [allDark]
@[simp] theorem allDark_pending (s : State) : (allDark s).pending = s.pending := by simp [allDark]
@[simp] theorem allDark_freeReads (s : State) : (allDark s).freeReads = s.freeReads := by simp [allDark]
@[simp] theorem allDark_cth_timeBase (s : State) :
    (allDark s).cth.timeBase = s.cth.timeBase := by simp [allDark]
@[simp] theorem allDark_lif_mask (s : State) : (allDark s).lif.mask = s.lif.mask := by simp [allDark]
@[simp] theorem allDark_lif_slots (s : State) : (allDark s).lif.slots = s.lif.slots := by simp [allDark]
@[simp] theorem allDark_lif_outbox (s : State) : (allDark s).lif.outbox = s.lif.outbox := by simp [allDark]
@[simp] theorem allDark_lif_tx (s : State) : (allDark s).lif.tx = s.lif.tx := by simp [allDark]

@[simp] theorem recordHits_grd (hits : Four Bool) (s : State) :
    (recordHits hits s).grd = s.grd := by unfold recordHits; split <;> simp
@[simp] theorem recordHits_lmn (hits : Four Bool) (s : State) :
    (recordHits hits s).lmn = s.lmn := by unfold recordHits; split <;> simp
@[simp] theorem recordHits_sampling (hits : Four Bool) (s : State) :
    (recordHits hits s).sampling = s.sampling := by unfold recordHits; split <;> simp
@[simp] theorem recordHits_settings (hits : Four Bool) (s : State) :
    (recordHits hits s).settings = s.settings := by unfold recordHits; split <;> simp
@[simp] theorem recordHits_sto (hits : Four Bool) (s : State) :
    (recordHits hits s).sto = s.sto := by unfold recordHits; split <;> simp
@[simp] theorem recordHits_pending (hits : Four Bool) (s : State) :
    (recordHits hits s).pending = s.pending := by unfold recordHits; split <;> simp
@[simp] theorem recordHits_freeReads (hits : Four Bool) (s : State) :
    (recordHits hits s).freeReads = s.freeReads := by unfold recordHits; split <;> simp

@[simp] theorem awaitTurn_grd (d : Direction) (s : State) : (awaitTurn d s).grd = s.grd := rfl
@[simp] theorem awaitTurn_lmn (d : Direction) (s : State) : (awaitTurn d s).lmn = s.lmn := rfl
@[simp] theorem awaitTurn_sampling (d : Direction) (s : State) : (awaitTurn d s).sampling = s.sampling := rfl
@[simp] theorem awaitTurn_settings (d : Direction) (s : State) :
    (awaitTurn d s).settings = s.settings := rfl
@[simp] theorem awaitTurn_sto (d : Direction) (s : State) : (awaitTurn d s).sto = s.sto := rfl
@[simp] theorem awaitTurn_pending (d : Direction) (s : State) : (awaitTurn d s).pending = s.pending := rfl
@[simp] theorem awaitTurn_freeReads (d : Direction) (s : State) :
    (awaitTurn d s).freeReads = s.freeReads := rfl

@[simp] theorem beforeTurn_grd (s : State) :
    (beforeTurn s).grd = s.grd := by
  simp only [beforeTurn]
  repeat' split
  all_goals simp
@[simp] theorem beforeTurn_lmn (s : State) :
    (beforeTurn s).lmn = s.lmn := by
  simp only [beforeTurn]
  repeat' split
  all_goals simp
@[simp] theorem beforeTurn_sampling (s : State) :
    (beforeTurn s).sampling = s.sampling := by
  simp only [beforeTurn]
  repeat' split
  all_goals simp
@[simp] theorem beforeTurn_settings (s : State) :
    (beforeTurn s).settings = s.settings := by
  simp only [beforeTurn]
  repeat' split
  all_goals simp
@[simp] theorem beforeTurn_sto (s : State) :
    (beforeTurn s).sto = s.sto := by
  simp only [beforeTurn]
  repeat' split
  all_goals simp
@[simp] theorem beforeTurn_pending (s : State) :
    (beforeTurn s).pending = s.pending := by
  simp only [beforeTurn]
  repeat' split
  all_goals simp
@[simp] theorem beforeTurn_freeReads (s : State) :
    (beforeTurn s).freeReads = s.freeReads := by
  simp only [beforeTurn]
  repeat' split
  all_goals simp

@[simp] theorem openingCompletion_grd (s : State) :
    (openingCompletion s).grd = s.grd := by
  simp only [openingCompletion]
  repeat' split
  all_goals simp
@[simp] theorem openingCompletion_lmn (s : State) :
    (openingCompletion s).lmn = s.lmn := by
  simp only [openingCompletion]
  repeat' split
  all_goals simp
@[simp] theorem openingCompletion_sampling (s : State) :
    (openingCompletion s).sampling = s.sampling := by
  simp only [openingCompletion]
  repeat' split
  all_goals simp
@[simp] theorem openingCompletion_settings (s : State) :
    (openingCompletion s).settings = s.settings := by
  simp only [openingCompletion]
  repeat' split
  all_goals simp
@[simp] theorem openingCompletion_sto (s : State) :
    (openingCompletion s).sto = s.sto := by
  simp only [openingCompletion]
  repeat' split
  all_goals simp
@[simp] theorem openingCompletion_pending (s : State) :
    (openingCompletion s).pending = s.pending := by
  simp only [openingCompletion]
  repeat' split
  all_goals simp
@[simp] theorem openingCompletion_freeReads (s : State) :
    (openingCompletion s).freeReads = s.freeReads := by
  simp only [openingCompletion]
  repeat' split
  all_goals simp

@[simp] theorem returnToHeld_grd (a : SetAside) (s : State) :
    (returnToHeld a s).grd = s.grd := by simp [returnToHeld]
@[simp] theorem returnToHeld_lmn (a : SetAside) (s : State) :
    (returnToHeld a s).lmn = s.lmn := by simp [returnToHeld]
@[simp] theorem returnToHeld_sampling (a : SetAside) (s : State) :
    (returnToHeld a s).sampling = s.sampling := by simp [returnToHeld]
@[simp] theorem returnToHeld_settings (a : SetAside) (s : State) :
    (returnToHeld a s).settings = s.settings := by simp [returnToHeld]
@[simp] theorem returnToHeld_sto (a : SetAside) (s : State) :
    (returnToHeld a s).sto = s.sto := by simp [returnToHeld]
@[simp] theorem returnToHeld_pending (a : SetAside) (s : State) :
    (returnToHeld a s).pending = s.pending := by simp [returnToHeld]
@[simp] theorem returnToHeld_freeReads (a : SetAside) (s : State) :
    (returnToHeld a s).freeReads = s.freeReads := by simp [returnToHeld]

@[simp] theorem passCompleted_grd (s : State) :
    (passCompleted s).grd = s.grd := by
  simp only [passCompleted]
  repeat' split
  all_goals simp
@[simp] theorem passCompleted_lmn (s : State) :
    (passCompleted s).lmn = s.lmn := by
  simp only [passCompleted]
  repeat' split
  all_goals simp
@[simp] theorem passCompleted_sampling (s : State) :
    (passCompleted s).sampling = s.sampling := by
  simp only [passCompleted]
  repeat' split
  all_goals simp
@[simp] theorem passCompleted_settings (s : State) :
    (passCompleted s).settings = s.settings := by
  simp only [passCompleted]
  repeat' split
  all_goals simp
@[simp] theorem passCompleted_sto (s : State) :
    (passCompleted s).sto = s.sto := by
  simp only [passCompleted]
  repeat' split
  all_goals simp
@[simp] theorem passCompleted_pending (s : State) :
    (passCompleted s).pending = s.pending := by
  simp only [passCompleted]
  repeat' split
  all_goals simp
@[simp] theorem passCompleted_freeReads (s : State) :
    (passCompleted s).freeReads = s.freeReads := by
  simp only [passCompleted]
  repeat' split
  all_goals simp

/-- A change at a boundary of preview periods leaves alone what the change itself leaves alone, of the blocks
that preview does not touch (R89). -/
theorem boundary_settings (keep : Eight Bool → Eight Bool) (change : State → State) (s : State)
    (h : ∀ t, (change t).settings = t.settings) : (boundary keep change s).settings = s.settings := by
  unfold boundary; split
  · dsimp only; split <;> simp [h]
  · exact h s
theorem boundary_sto (keep : Eight Bool → Eight Bool) (change : State → State) (s : State)
    (h : ∀ t, (change t).sto = t.sto) : (boundary keep change s).sto = s.sto := by
  unfold boundary; split
  · dsimp only; split <;> simp [h]
  · exact h s
theorem boundary_pending (keep : Eight Bool → Eight Bool) (change : State → State) (s : State)
    (h : ∀ t, (change t).pending = t.pending) : (boundary keep change s).pending = s.pending := by
  unfold boundary; split
  · dsimp only; split <;> simp [h]
  · exact h s
theorem boundary_freeReads (keep : Eight Bool → Eight Bool) (change : State → State) (s : State)
    (h : ∀ t, (change t).freeReads = t.freeReads) : (boundary keep change s).freeReads = s.freeReads := by
  unfold boundary; split
  · dsimp only; split <;> simp [h]
  · exact h s
theorem boundary_grd (keep : Eight Bool → Eight Bool) (change : State → State) (s : State)
    (h : ∀ t, (change t).grd = t.grd) : (boundary keep change s).grd = s.grd := by
  unfold boundary; split
  · dsimp only; split <;> simp [h]
  · exact h s
theorem boundary_csq (keep : Eight Bool → Eight Bool) (change : State → State) (s : State)
    (h : ∀ t, (change t).csq = t.csq) : (boundary keep change s).csq = s.csq := by
  unfold boundary; split
  · dsimp only; split <;> simp [h]
  · exact h s
theorem boundary_rq (keep : Eight Bool → Eight Bool) (change : State → State) (s : State)
    (h : ∀ t, (change t).rq = t.rq) : (boundary keep change s).rq = s.rq := by
  unfold boundary; split
  · dsimp only; split <;> simp [h]
  · exact h s
theorem boundary_spu (keep : Eight Bool → Eight Bool) (change : State → State) (s : State)
    (h : ∀ t, (change t).spu = t.spu) : (boundary keep change s).spu = s.spu := by
  unfold boundary; split
  · dsimp only; split <;> simp [h]
  · exact h s
theorem boundary_lmn (keep : Eight Bool → Eight Bool) (change : State → State) (s : State)
    (h : ∀ t, (change t).lmn = t.lmn) : (boundary keep change s).lmn = s.lmn := by
  unfold boundary; split
  · dsimp only; split <;> simp [h]
  · exact h s
theorem boundary_sampling (keep : Eight Bool → Eight Bool) (change : State → State) (s : State)
    (h : ∀ t, (change t).sampling = t.sampling) : (boundary keep change s).sampling = s.sampling := by
  unfold boundary; split
  · dsimp only; split <;> simp [h]
  · exact h s
theorem atBoundary_settings (change : State → State) (s : State) (h : ∀ t, (change t).settings = t.settings) :
    (atBoundary change s).settings = s.settings := boundary_settings id change s h
theorem atBoundary_sto (change : State → State) (s : State) (h : ∀ t, (change t).sto = t.sto) :
    (atBoundary change s).sto = s.sto := boundary_sto id change s h
theorem atBoundary_pending (change : State → State) (s : State) (h : ∀ t, (change t).pending = t.pending) :
    (atBoundary change s).pending = s.pending := boundary_pending id change s h
theorem atBoundary_freeReads (change : State → State) (s : State) (h : ∀ t, (change t).freeReads = t.freeReads) :
    (atBoundary change s).freeReads = s.freeReads := boundary_freeReads id change s h
theorem atBoundary_grd (change : State → State) (s : State) (h : ∀ t, (change t).grd = t.grd) :
    (atBoundary change s).grd = s.grd := boundary_grd id change s h
theorem atBoundary_csq (change : State → State) (s : State) (h : ∀ t, (change t).csq = t.csq) :
    (atBoundary change s).csq = s.csq := boundary_csq id change s h
theorem atBoundary_rq (change : State → State) (s : State) (h : ∀ t, (change t).rq = t.rq) :
    (atBoundary change s).rq = s.rq := boundary_rq id change s h
theorem atBoundary_spu (change : State → State) (s : State) (h : ∀ t, (change t).spu = t.spu) :
    (atBoundary change s).spu = s.spu := boundary_spu id change s h
theorem atBoundary_lmn (change : State → State) (s : State) (h : ∀ t, (change t).lmn = t.lmn) :
    (atBoundary change s).lmn = s.lmn := boundary_lmn id change s h
theorem atBoundary_sampling (change : State → State) (s : State) (h : ∀ t, (change t).sampling = t.sampling) :
    (atBoundary change s).sampling = s.sampling := boundary_sampling id change s h

end Sys2Proof.Machine
end

