-- ==== Sys2Proof/Laws/Shots.lean ====
section
/-! SUPPORT. What the operations of the shot plan unit leave alone, field by field. -/

namespace Sys2Proof.Machine

@[simp] theorem modPass_grd (f : Pass → Pass) (s : State) : (modPass f s).grd = s.grd := rfl
@[simp] theorem modPass_lmn (f : Pass → Pass) (s : State) : (modPass f s).lmn = s.lmn := rfl
@[simp] theorem modPass_sampling (f : Pass → Pass) (s : State) : (modPass f s).sampling = s.sampling := rfl
@[simp] theorem modPass_settings (f : Pass → Pass) (s : State) : (modPass f s).settings = s.settings := rfl
@[simp] theorem modPass_sto (f : Pass → Pass) (s : State) : (modPass f s).sto = s.sto := rfl
@[simp] theorem modPass_pending (f : Pass → Pass) (s : State) : (modPass f s).pending = s.pending := rfl
@[simp] theorem modPass_freeReads (f : Pass → Pass) (s : State) :
    (modPass f s).freeReads = s.freeReads := rfl

@[simp] theorem modPort_grd (h : Half) (f : Port → Port) (s : State) : (modPort h f s).grd = s.grd := rfl
@[simp] theorem modPort_lmn (h : Half) (f : Port → Port) (s : State) : (modPort h f s).lmn = s.lmn := rfl
@[simp] theorem modPort_sampling (h : Half) (f : Port → Port) (s : State) : (modPort h f s).sampling = s.sampling := rfl
@[simp] theorem modPort_settings (h : Half) (f : Port → Port) (s : State) :
    (modPort h f s).settings = s.settings := rfl
@[simp] theorem modPort_sto (h : Half) (f : Port → Port) (s : State) : (modPort h f s).sto = s.sto := rfl
@[simp] theorem modPort_pending (h : Half) (f : Port → Port) (s : State) :
    (modPort h f s).pending = s.pending := rfl
@[simp] theorem modPort_freeReads (h : Half) (f : Port → Port) (s : State) :
    (modPort h f s).freeReads = s.freeReads := rfl

@[simp] theorem closePass_grd (p : Pass) (s : State) : (closePass p s).grd = s.grd := by simp [closePass]
@[simp] theorem closePass_lmn (p : Pass) (s : State) : (closePass p s).lmn = s.lmn := by simp [closePass]
@[simp] theorem closePass_sampling (p : Pass) (s : State) : (closePass p s).sampling = s.sampling := by simp [closePass]
@[simp] theorem closePass_settings (p : Pass) (s : State) :
    (closePass p s).settings = s.settings := by simp [closePass]
@[simp] theorem closePass_sto (p : Pass) (s : State) : (closePass p s).sto = s.sto := by simp [closePass]
@[simp] theorem closePass_pending (p : Pass) (s : State) :
    (closePass p s).pending = s.pending := by simp [closePass]
@[simp] theorem closePass_freeReads (p : Pass) (s : State) :
    (closePass p s).freeReads = s.freeReads := by simp [closePass]

@[simp] theorem completePass_grd (p : Pass) (s : State) :
    (completePass p s).grd = s.grd := by simp [completePass]
@[simp] theorem completePass_lmn (p : Pass) (s : State) :
    (completePass p s).lmn = s.lmn := by simp [completePass]
@[simp] theorem completePass_sampling (p : Pass) (s : State) :
    (completePass p s).sampling = s.sampling := by simp [completePass]
@[simp] theorem completePass_settings (p : Pass) (s : State) :
    (completePass p s).settings = s.settings := by simp [completePass]
@[simp] theorem completePass_sto (p : Pass) (s : State) :
    (completePass p s).sto = s.sto := by simp [completePass]
@[simp] theorem completePass_pending (p : Pass) (s : State) :
    (completePass p s).pending = s.pending := by simp [completePass]
@[simp] theorem completePass_freeReads (p : Pass) (s : State) :
    (completePass p s).freeReads = s.freeReads := by simp [completePass]

@[simp] theorem abandonPass_grd (s : State) :
    (abandonPass s).grd = s.grd := by unfold abandonPass; split <;> simp
@[simp] theorem abandonPass_lmn (s : State) :
    (abandonPass s).lmn = s.lmn := by unfold abandonPass; split <;> simp
@[simp] theorem abandonPass_sampling (s : State) :
    (abandonPass s).sampling = s.sampling := by unfold abandonPass; split <;> simp
@[simp] theorem abandonPass_settings (s : State) :
    (abandonPass s).settings = s.settings := by unfold abandonPass; split <;> simp
@[simp] theorem abandonPass_sto (s : State) :
    (abandonPass s).sto = s.sto := by unfold abandonPass; split <;> simp
@[simp] theorem abandonPass_pending (s : State) :
    (abandonPass s).pending = s.pending := by unfold abandonPass; split <;> simp
@[simp] theorem abandonPass_freeReads (s : State) :
    (abandonPass s).freeReads = s.freeReads := by unfold abandonPass; split <;> simp

@[simp] theorem takePlan_grd (s : State) :
    (takePlan s).grd = s.grd := by
  simp only [takePlan]
  repeat' split
  all_goals simp
@[simp] theorem takePlan_lmn (s : State) :
    (takePlan s).lmn = s.lmn := by
  simp only [takePlan]
  repeat' split
  all_goals simp
@[simp] theorem takePlan_sampling (s : State) :
    (takePlan s).sampling = s.sampling := by
  simp only [takePlan]
  repeat' split
  all_goals simp
@[simp] theorem takePlan_settings (s : State) :
    (takePlan s).settings = s.settings := by
  simp only [takePlan]
  repeat' split
  all_goals simp
@[simp] theorem takePlan_sto (s : State) :
    (takePlan s).sto = s.sto := by
  simp only [takePlan]
  repeat' split
  all_goals simp
@[simp] theorem takePlan_pending (s : State) :
    (takePlan s).pending = s.pending := by
  simp only [takePlan]
  repeat' split
  all_goals simp
@[simp] theorem takePlan_freeReads (s : State) :
    (takePlan s).freeReads = s.freeReads := by
  simp only [takePlan]
  repeat' split
  all_goals simp

@[simp] theorem startPass_grd (s : State) :
    (startPass s).grd = s.grd := by
  simp only [startPass]
  repeat' split
  all_goals simp
@[simp] theorem startPass_lmn (s : State) :
    (startPass s).lmn = s.lmn := by
  simp only [startPass]
  repeat' split
  all_goals simp
@[simp] theorem startPass_sampling (s : State) :
    (startPass s).sampling = s.sampling := by
  simp only [startPass]
  repeat' split
  all_goals simp
@[simp] theorem startPass_settings (s : State) :
    (startPass s).settings = s.settings := by
  simp only [startPass]
  repeat' split
  all_goals simp
@[simp] theorem startPass_sto (s : State) :
    (startPass s).sto = s.sto := by
  simp only [startPass]
  repeat' split
  all_goals simp
@[simp] theorem startPass_pending (s : State) :
    (startPass s).pending = s.pending := by
  simp only [startPass]
  repeat' split
  all_goals simp
@[simp] theorem startPass_freeReads (s : State) :
    (startPass s).freeReads = s.freeReads := by
  simp only [startPass]
  repeat' split
  all_goals simp

@[simp] theorem recordShot_grd (ended : ShotEnd) (p : Pass) (x : Shot) (s : State) :
    (recordShot ended p x s).grd = s.grd := by unfold recordShot; split <;> simp
@[simp] theorem recordShot_lmn (ended : ShotEnd) (p : Pass) (x : Shot) (s : State) :
    (recordShot ended p x s).lmn = s.lmn := by unfold recordShot; split <;> simp
@[simp] theorem recordShot_sampling (ended : ShotEnd) (p : Pass) (x : Shot) (s : State) :
    (recordShot ended p x s).sampling = s.sampling := by unfold recordShot; split <;> simp
@[simp] theorem recordShot_settings (ended : ShotEnd) (p : Pass) (x : Shot) (s : State) :
    (recordShot ended p x s).settings = s.settings := by unfold recordShot; split <;> simp
@[simp] theorem recordShot_sto (ended : ShotEnd) (p : Pass) (x : Shot) (s : State) :
    (recordShot ended p x s).sto = s.sto := by unfold recordShot; split <;> simp
@[simp] theorem recordShot_pending (ended : ShotEnd) (p : Pass) (x : Shot) (s : State) :
    (recordShot ended p x s).pending = s.pending := by unfold recordShot; split <;> simp
@[simp] theorem recordShot_freeReads (ended : ShotEnd) (p : Pass) (x : Shot) (s : State) :
    (recordShot ended p x s).freeReads = s.freeReads := by unfold recordShot; split <;> simp

@[simp] theorem nextShot_grd (s : State) :
    (nextShot s).grd = s.grd := by
  simp only [nextShot]
  repeat' split
  all_goals simp
@[simp] theorem nextShot_lmn (s : State) :
    (nextShot s).lmn = s.lmn := by
  simp only [nextShot]
  repeat' split
  all_goals simp
@[simp] theorem nextShot_sampling (s : State) :
    (nextShot s).sampling = s.sampling := by
  simp only [nextShot]
  repeat' split
  all_goals simp
@[simp] theorem nextShot_settings (s : State) :
    (nextShot s).settings = s.settings := by
  simp only [nextShot]
  repeat' split
  all_goals simp
@[simp] theorem nextShot_sto (s : State) :
    (nextShot s).sto = s.sto := by
  simp only [nextShot]
  repeat' split
  all_goals simp
@[simp] theorem nextShot_pending (s : State) :
    (nextShot s).pending = s.pending := by
  simp only [nextShot]
  repeat' split
  all_goals simp
@[simp] theorem nextShot_freeReads (s : State) :
    (nextShot s).freeReads = s.freeReads := by
  simp only [nextShot]
  repeat' split
  all_goals simp

@[simp] theorem completeShot_grd (s : State) :
    (completeShot s).grd = s.grd := by
  simp only [completeShot]
  repeat' split
  all_goals simp
@[simp] theorem completeShot_lmn (s : State) :
    (completeShot s).lmn = s.lmn := by
  simp only [completeShot]
  repeat' split
  all_goals simp
@[simp] theorem completeShot_sampling (s : State) :
    (completeShot s).sampling = s.sampling := by
  simp only [completeShot]
  repeat' split
  all_goals simp
@[simp] theorem completeShot_settings (s : State) :
    (completeShot s).settings = s.settings := by
  simp only [completeShot]
  repeat' split
  all_goals simp
@[simp] theorem completeShot_sto (s : State) :
    (completeShot s).sto = s.sto := by
  simp only [completeShot]
  repeat' split
  all_goals simp
@[simp] theorem completeShot_pending (s : State) :
    (completeShot s).pending = s.pending := by
  simp only [completeShot]
  repeat' split
  all_goals simp
@[simp] theorem completeShot_freeReads (s : State) :
    (completeShot s).freeReads = s.freeReads := by
  simp only [completeShot]
  repeat' split
  all_goals simp

@[simp] theorem triggerCamera_grd (h : Half) (s : State) : (triggerCamera h s).grd = s.grd := rfl
@[simp] theorem triggerCamera_lmn (h : Half) (s : State) : (triggerCamera h s).lmn = s.lmn := rfl
@[simp] theorem triggerCamera_sampling (h : Half) (s : State) : (triggerCamera h s).sampling = s.sampling := rfl
@[simp] theorem triggerCamera_settings (h : Half) (s : State) :
    (triggerCamera h s).settings = s.settings := rfl
@[simp] theorem triggerCamera_sto (h : Half) (s : State) : (triggerCamera h s).sto = s.sto := rfl
@[simp] theorem triggerCamera_pending (h : Half) (s : State) :
    (triggerCamera h s).pending = s.pending := rfl
@[simp] theorem triggerCamera_freeReads (h : Half) (s : State) :
    (triggerCamera h s).freeReads = s.freeReads := rfl

@[simp] theorem trigger_grd (s : State) :
    (trigger s).grd = s.grd := by
  simp only [trigger]
  repeat' split
  all_goals simp
@[simp] theorem trigger_lmn (s : State) :
    (trigger s).lmn = s.lmn := by
  simp only [trigger]
  repeat' split
  all_goals simp
@[simp] theorem trigger_sampling (s : State) :
    (trigger s).sampling = s.sampling := by
  simp only [trigger]
  repeat' split
  all_goals simp
@[simp] theorem trigger_settings (s : State) :
    (trigger s).settings = s.settings := by
  simp only [trigger]
  repeat' split
  all_goals simp
@[simp] theorem trigger_sto (s : State) :
    (trigger s).sto = s.sto := by
  simp only [trigger]
  repeat' split
  all_goals simp
@[simp] theorem trigger_pending (s : State) :
    (trigger s).pending = s.pending := by
  simp only [trigger]
  repeat' split
  all_goals simp
@[simp] theorem trigger_freeReads (s : State) :
    (trigger s).freeReads = s.freeReads := by
  simp only [trigger]
  repeat' split
  all_goals simp

@[simp] theorem withholdShot_grd (pl pr : Nat) (s : State) :
    (withholdShot pl pr s).grd = s.grd := by simp [withholdShot]
@[simp] theorem withholdShot_lmn (pl pr : Nat) (s : State) :
    (withholdShot pl pr s).lmn = s.lmn := by simp [withholdShot]
@[simp] theorem withholdShot_sampling (pl pr : Nat) (s : State) :
    (withholdShot pl pr s).sampling = s.sampling := by simp [withholdShot]
@[simp] theorem withholdShot_settings (pl pr : Nat) (s : State) :
    (withholdShot pl pr s).settings = s.settings := by simp [withholdShot]
@[simp] theorem withholdShot_sto (pl pr : Nat) (s : State) :
    (withholdShot pl pr s).sto = s.sto := by simp [withholdShot]
@[simp] theorem withholdShot_pending (pl pr : Nat) (s : State) :
    (withholdShot pl pr s).pending = s.pending := by simp [withholdShot]
@[simp] theorem withholdShot_freeReads (pl pr : Nat) (s : State) :
    (withholdShot pl pr s).freeReads = s.freeReads := by simp [withholdShot]

@[simp] theorem fireShot_grd (x : Shot) (lit : Eight Bool) (onTime : Nat) (s : State) :
    (fireShot x lit onTime s).grd = s.grd := by
  simp only [fireShot]
  repeat' split
  all_goals simp
@[simp] theorem fireShot_lmn (x : Shot) (lit : Eight Bool) (onTime : Nat) (s : State) :
    (fireShot x lit onTime s).lmn = s.lmn := by
  simp only [fireShot]
  repeat' split
  all_goals simp
@[simp] theorem fireShot_sampling (x : Shot) (lit : Eight Bool) (onTime : Nat) (s : State) :
    (fireShot x lit onTime s).sampling = s.sampling := by
  simp only [fireShot]
  repeat' split
  all_goals simp
@[simp] theorem fireShot_settings (x : Shot) (lit : Eight Bool) (onTime : Nat) (s : State) :
    (fireShot x lit onTime s).settings = s.settings := by
  simp only [fireShot]
  repeat' split
  all_goals simp
@[simp] theorem fireShot_sto (x : Shot) (lit : Eight Bool) (onTime : Nat) (s : State) :
    (fireShot x lit onTime s).sto = s.sto := by
  simp only [fireShot]
  repeat' split
  all_goals simp
@[simp] theorem fireShot_pending (x : Shot) (lit : Eight Bool) (onTime : Nat) (s : State) :
    (fireShot x lit onTime s).pending = s.pending := by
  simp only [fireShot]
  repeat' split
  all_goals simp
@[simp] theorem fireShot_freeReads (x : Shot) (lit : Eight Bool) (onTime : Nat) (s : State) :
    (fireShot x lit onTime s).freeReads = s.freeReads := by
  simp only [fireShot]
  repeat' split
  all_goals simp

@[simp] theorem predictShot_grd (x : Shot) (s : State) :
    (predictShot x s).grd = s.grd := by
  simp only [predictShot]
  repeat' split
  all_goals simp
@[simp] theorem predictShot_lmn (x : Shot) (s : State) :
    (predictShot x s).lmn = s.lmn := by
  simp only [predictShot]
  repeat' split
  all_goals simp
@[simp] theorem predictShot_sampling (x : Shot) (s : State) :
    (predictShot x s).sampling = s.sampling := by
  simp only [predictShot]
  repeat' split
  all_goals simp
@[simp] theorem predictShot_settings (x : Shot) (s : State) :
    (predictShot x s).settings = s.settings := by
  simp only [predictShot]
  repeat' split
  all_goals simp
@[simp] theorem predictShot_sto (x : Shot) (s : State) :
    (predictShot x s).sto = s.sto := by
  simp only [predictShot]
  repeat' split
  all_goals simp
@[simp] theorem predictShot_pending (x : Shot) (s : State) :
    (predictShot x s).pending = s.pending := by
  simp only [predictShot]
  repeat' split
  all_goals simp
@[simp] theorem predictShot_freeReads (x : Shot) (s : State) :
    (predictShot x s).freeReads = s.freeReads := by
  simp only [predictShot]
  repeat' split
  all_goals simp

@[simp] theorem readyCheck_grd (s : State) :
    (readyCheck s).grd = s.grd := by
  simp only [readyCheck]
  repeat' split
  all_goals simp
@[simp] theorem readyCheck_lmn (s : State) :
    (readyCheck s).lmn = s.lmn := by
  simp only [readyCheck]
  repeat' split
  all_goals simp
@[simp] theorem readyCheck_sampling (s : State) :
    (readyCheck s).sampling = s.sampling := by
  simp only [readyCheck]
  repeat' split
  all_goals simp
@[simp] theorem readyCheck_settings (s : State) :
    (readyCheck s).settings = s.settings := by
  simp only [readyCheck]
  repeat' split
  all_goals simp
@[simp] theorem readyCheck_sto (s : State) :
    (readyCheck s).sto = s.sto := by
  simp only [readyCheck]
  repeat' split
  all_goals simp
@[simp] theorem readyCheck_pending (s : State) :
    (readyCheck s).pending = s.pending := by
  simp only [readyCheck]
  repeat' split
  all_goals simp
@[simp] theorem readyCheck_freeReads (s : State) :
    (readyCheck s).freeReads = s.freeReads := by
  simp only [readyCheck]
  repeat' split
  all_goals simp

@[simp] theorem readyChanged_grd (s : State) :
    (readyChanged s).grd = s.grd := by
  simp only [readyChanged]
  repeat' split
  all_goals simp
@[simp] theorem readyChanged_lmn (s : State) :
    (readyChanged s).lmn = s.lmn := by
  simp only [readyChanged]
  repeat' split
  all_goals simp
@[simp] theorem readyChanged_sampling (s : State) :
    (readyChanged s).sampling = s.sampling := by
  simp only [readyChanged]
  repeat' split
  all_goals simp
@[simp] theorem readyChanged_settings (s : State) :
    (readyChanged s).settings = s.settings := by
  simp only [readyChanged]
  repeat' split
  all_goals simp
@[simp] theorem readyChanged_sto (s : State) :
    (readyChanged s).sto = s.sto := by
  simp only [readyChanged]
  repeat' split
  all_goals simp
@[simp] theorem readyChanged_pending (s : State) :
    (readyChanged s).pending = s.pending := by
  simp only [readyChanged]
  repeat' split
  all_goals simp
@[simp] theorem readyChanged_freeReads (s : State) :
    (readyChanged s).freeReads = s.freeReads := by
  simp only [readyChanged]
  repeat' split
  all_goals simp

@[simp] theorem noFrame_grd (h : Half) (s : State) : (noFrame h s).grd = s.grd := rfl
@[simp] theorem noFrame_lmn (h : Half) (s : State) : (noFrame h s).lmn = s.lmn := rfl
@[simp] theorem noFrame_sampling (h : Half) (s : State) : (noFrame h s).sampling = s.sampling := rfl
@[simp] theorem noFrame_settings (h : Half) (s : State) : (noFrame h s).settings = s.settings := rfl
@[simp] theorem noFrame_sto (h : Half) (s : State) : (noFrame h s).sto = s.sto := rfl
@[simp] theorem noFrame_pending (h : Half) (s : State) : (noFrame h s).pending = s.pending := rfl
@[simp] theorem noFrame_freeReads (h : Half) (s : State) : (noFrame h s).freeReads = s.freeReads := rfl

@[simp] theorem graceExpired_grd (s : State) :
    (graceExpired s).grd = s.grd := by
  simp only [graceExpired]
  repeat' split
  all_goals simp
@[simp] theorem graceExpired_lmn (s : State) :
    (graceExpired s).lmn = s.lmn := by
  simp only [graceExpired]
  repeat' split
  all_goals simp
@[simp] theorem graceExpired_sampling (s : State) :
    (graceExpired s).sampling = s.sampling := by
  simp only [graceExpired]
  repeat' split
  all_goals simp
@[simp] theorem graceExpired_settings (s : State) :
    (graceExpired s).settings = s.settings := by
  simp only [graceExpired]
  repeat' split
  all_goals simp
@[simp] theorem graceExpired_sto (s : State) :
    (graceExpired s).sto = s.sto := by
  simp only [graceExpired]
  repeat' split
  all_goals simp
@[simp] theorem graceExpired_pending (s : State) :
    (graceExpired s).pending = s.pending := by
  simp only [graceExpired]
  repeat' split
  all_goals simp
@[simp] theorem graceExpired_freeReads (s : State) :
    (graceExpired s).freeReads = s.freeReads := by
  simp only [graceExpired]
  repeat' split
  all_goals simp

@[simp] theorem darken_grd (f : Flash) (t : Nat) (s : State) : (darken f t s).grd = s.grd := rfl
@[simp] theorem darken_lmn (f : Flash) (t : Nat) (s : State) : (darken f t s).lmn = s.lmn := rfl
@[simp] theorem darken_sampling (f : Flash) (t : Nat) (s : State) : (darken f t s).sampling = s.sampling := rfl
@[simp] theorem darken_settings (f : Flash) (t : Nat) (s : State) :
    (darken f t s).settings = s.settings := rfl
@[simp] theorem darken_sto (f : Flash) (t : Nat) (s : State) : (darken f t s).sto = s.sto := rfl
@[simp] theorem darken_pending (f : Flash) (t : Nat) (s : State) : (darken f t s).pending = s.pending := rfl
@[simp] theorem darken_freeReads (f : Flash) (t : Nat) (s : State) :
    (darken f t s).freeReads = s.freeReads := rfl

@[simp] theorem flashReported_grd (s : State) :
    (flashReported s).grd = s.grd := by
  simp only [flashReported]
  repeat' split
  all_goals simp
@[simp] theorem flashReported_lmn (s : State) :
    (flashReported s).lmn = s.lmn := by
  simp only [flashReported]
  repeat' split
  all_goals simp
@[simp] theorem flashReported_sampling (s : State) :
    (flashReported s).sampling = s.sampling := by
  simp only [flashReported]
  repeat' split
  all_goals simp
@[simp] theorem flashReported_settings (s : State) :
    (flashReported s).settings = s.settings := by
  simp only [flashReported]
  repeat' split
  all_goals simp
@[simp] theorem flashReported_sto (s : State) :
    (flashReported s).sto = s.sto := by
  simp only [flashReported]
  repeat' split
  all_goals simp
@[simp] theorem flashReported_pending (s : State) :
    (flashReported s).pending = s.pending := by
  simp only [flashReported]
  repeat' split
  all_goals simp
@[simp] theorem flashReported_freeReads (s : State) :
    (flashReported s).freeReads = s.freeReads := by
  simp only [flashReported]
  repeat' split
  all_goals simp

@[simp] theorem flashExpired_grd (f : Flash) (s : State) :
    (flashExpired f s).grd = s.grd := by unfold flashExpired; split <;> simp
@[simp] theorem flashExpired_lmn (f : Flash) (s : State) :
    (flashExpired f s).lmn = s.lmn := by unfold flashExpired; split <;> simp
@[simp] theorem flashExpired_sampling (f : Flash) (s : State) :
    (flashExpired f s).sampling = s.sampling := by unfold flashExpired; split <;> simp
@[simp] theorem flashExpired_settings (f : Flash) (s : State) :
    (flashExpired f s).settings = s.settings := by unfold flashExpired; split <;> simp
@[simp] theorem flashExpired_sto (f : Flash) (s : State) :
    (flashExpired f s).sto = s.sto := by unfold flashExpired; split <;> simp
@[simp] theorem flashExpired_pending (f : Flash) (s : State) :
    (flashExpired f s).pending = s.pending := by unfold flashExpired; split <;> simp
@[simp] theorem flashExpired_freeReads (f : Flash) (s : State) :
    (flashExpired f s).freeReads = s.freeReads := by unfold flashExpired; split <;> simp

@[simp] theorem exposureEnd_grd (h : Half) (s : State) :
    (exposureEnd h s).grd = s.grd := by
  simp only [exposureEnd]
  repeat' split
  all_goals simp
@[simp] theorem exposureEnd_lmn (h : Half) (s : State) :
    (exposureEnd h s).lmn = s.lmn := by
  simp only [exposureEnd]
  repeat' split
  all_goals simp
@[simp] theorem exposureEnd_sampling (h : Half) (s : State) :
    (exposureEnd h s).sampling = s.sampling := by
  simp only [exposureEnd]
  repeat' split
  all_goals simp
@[simp] theorem exposureEnd_settings (h : Half) (s : State) :
    (exposureEnd h s).settings = s.settings := by
  simp only [exposureEnd]
  repeat' split
  all_goals simp
@[simp] theorem exposureEnd_sto (h : Half) (s : State) :
    (exposureEnd h s).sto = s.sto := by
  simp only [exposureEnd]
  repeat' split
  all_goals simp
@[simp] theorem exposureEnd_pending (h : Half) (s : State) :
    (exposureEnd h s).pending = s.pending := by
  simp only [exposureEnd]
  repeat' split
  all_goals simp
@[simp] theorem exposureEnd_freeReads (h : Half) (s : State) :
    (exposureEnd h s).freeReads = s.freeReads := by
  simp only [exposureEnd]
  repeat' split
  all_goals simp

@[simp] theorem withdrawTriggers_grd (s : State) : (withdrawTriggers s).grd = s.grd := rfl
@[simp] theorem withdrawTriggers_lmn (s : State) : (withdrawTriggers s).lmn = s.lmn := rfl
@[simp] theorem withdrawTriggers_sampling (s : State) : (withdrawTriggers s).sampling = s.sampling := rfl
@[simp] theorem withdrawTriggers_settings (s : State) : (withdrawTriggers s).settings = s.settings := rfl
@[simp] theorem withdrawTriggers_sto (s : State) : (withdrawTriggers s).sto = s.sto := rfl
@[simp] theorem withdrawTriggers_pending (s : State) : (withdrawTriggers s).pending = s.pending := rfl
@[simp] theorem withdrawTriggers_freeReads (s : State) : (withdrawTriggers s).freeReads = s.freeReads := rfl

@[simp] theorem closeCamera_grd (p : Pass) (x : Shot) (h : Half) (cam : CameraShot) (s : State) :
    (closeCamera p x h cam s).grd = s.grd := by unfold closeCamera; split <;> simp
@[simp] theorem closeCamera_lmn (p : Pass) (x : Shot) (h : Half) (cam : CameraShot) (s : State) :
    (closeCamera p x h cam s).lmn = s.lmn := by unfold closeCamera; split <;> simp
@[simp] theorem closeCamera_sampling (p : Pass) (x : Shot) (h : Half) (cam : CameraShot) (s : State) :
    (closeCamera p x h cam s).sampling = s.sampling := by unfold closeCamera; split <;> simp
@[simp] theorem closeCamera_settings (p : Pass) (x : Shot) (h : Half) (cam : CameraShot) (s : State) :
    (closeCamera p x h cam s).settings = s.settings := by unfold closeCamera; split <;> simp
@[simp] theorem closeCamera_sto (p : Pass) (x : Shot) (h : Half) (cam : CameraShot) (s : State) :
    (closeCamera p x h cam s).sto = s.sto := by unfold closeCamera; split <;> simp
@[simp] theorem closeCamera_pending (p : Pass) (x : Shot) (h : Half) (cam : CameraShot) (s : State) :
    (closeCamera p x h cam s).pending = s.pending := by unfold closeCamera; split <;> simp
@[simp] theorem closeCamera_freeReads (p : Pass) (x : Shot) (h : Half) (cam : CameraShot) (s : State) :
    (closeCamera p x h cam s).freeReads = s.freeReads := by unfold closeCamera; split <;> simp

@[simp] theorem endShotEarly_grd (ended : ShotEnd) (s : State) :
    (endShotEarly ended s).grd = s.grd := by
  simp only [endShotEarly]
  repeat' split
  all_goals simp
@[simp] theorem endShotEarly_lmn (ended : ShotEnd) (s : State) :
    (endShotEarly ended s).lmn = s.lmn := by
  simp only [endShotEarly]
  repeat' split
  all_goals simp
@[simp] theorem endShotEarly_sampling (ended : ShotEnd) (s : State) :
    (endShotEarly ended s).sampling = s.sampling := by
  simp only [endShotEarly]
  repeat' split
  all_goals simp
@[simp] theorem endShotEarly_settings (ended : ShotEnd) (s : State) :
    (endShotEarly ended s).settings = s.settings := by
  simp only [endShotEarly]
  repeat' split
  all_goals simp
@[simp] theorem endShotEarly_sto (ended : ShotEnd) (s : State) :
    (endShotEarly ended s).sto = s.sto := by
  simp only [endShotEarly]
  repeat' split
  all_goals simp
@[simp] theorem endShotEarly_pending (ended : ShotEnd) (s : State) :
    (endShotEarly ended s).pending = s.pending := by
  simp only [endShotEarly]
  repeat' split
  all_goals simp
@[simp] theorem endShotEarly_freeReads (ended : ShotEnd) (s : State) :
    (endShotEarly ended s).freeReads = s.freeReads := by
  simp only [endShotEarly]
  repeat' split
  all_goals simp

@[simp] theorem stopCapture_grd (ended : ShotEnd) (s : State) :
    (stopCapture ended s).grd = s.grd := by simp [stopCapture]
@[simp] theorem stopCapture_lmn (ended : ShotEnd) (s : State) :
    (stopCapture ended s).lmn = s.lmn := by simp [stopCapture]
@[simp] theorem stopCapture_sampling (ended : ShotEnd) (s : State) :
    (stopCapture ended s).sampling = s.sampling := by simp [stopCapture]
@[simp] theorem stopCapture_settings (ended : ShotEnd) (s : State) :
    (stopCapture ended s).settings = s.settings := by simp [stopCapture]
@[simp] theorem stopCapture_sto (ended : ShotEnd) (s : State) :
    (stopCapture ended s).sto = s.sto := by simp [stopCapture]
@[simp] theorem stopCapture_pending (ended : ShotEnd) (s : State) :
    (stopCapture ended s).pending = s.pending := by simp [stopCapture]
@[simp] theorem stopCapture_freeReads (ended : ShotEnd) (s : State) :
    (stopCapture ended s).freeReads = s.freeReads := by simp [stopCapture]

end Sys2Proof.Machine
end

