-- ==== Sys2Proof/Laws/Cycle.lean ====
section
/-! SUPPORT. What the cradle sequencer's movements leave alone, field by field. -/

namespace Sys2Proof.Machine

@[simp] theorem drive_grd (f : Actuators → Actuators) (s : State) : (drive f s).grd = s.grd := rfl
@[simp] theorem drive_lmn (f : Actuators → Actuators) (s : State) : (drive f s).lmn = s.lmn := rfl
@[simp] theorem drive_sampling (f : Actuators → Actuators) (s : State) : (drive f s).sampling = s.sampling := rfl
@[simp] theorem drive_settings (f : Actuators → Actuators) (s : State) :
    (drive f s).settings = s.settings := rfl
@[simp] theorem drive_sto (f : Actuators → Actuators) (s : State) : (drive f s).sto = s.sto := rfl
@[simp] theorem drive_pending (f : Actuators → Actuators) (s : State) :
    (drive f s).pending = s.pending := rfl
@[simp] theorem drive_freeReads (f : Actuators → Actuators) (s : State) :
    (drive f s).freeReads = s.freeReads := rfl

@[simp] theorem stopTimers_grd (s : State) : (stopTimers s).grd = s.grd := rfl
@[simp] theorem stopTimers_lmn (s : State) : (stopTimers s).lmn = s.lmn := rfl
@[simp] theorem stopTimers_sampling (s : State) : (stopTimers s).sampling = s.sampling := rfl
@[simp] theorem stopTimers_settings (s : State) : (stopTimers s).settings = s.settings := rfl
@[simp] theorem stopTimers_sto (s : State) : (stopTimers s).sto = s.sto := rfl
@[simp] theorem stopTimers_pending (s : State) : (stopTimers s).pending = s.pending := rfl
@[simp] theorem stopTimers_freeReads (s : State) : (stopTimers s).freeReads = s.freeReads := rfl

@[simp] theorem enterPhase_grd (p : Phase) (timeout : Nat) (s : State) :
    (enterPhase p timeout s).grd = s.grd := rfl
@[simp] theorem enterPhase_lmn (p : Phase) (timeout : Nat) (s : State) :
    (enterPhase p timeout s).lmn = s.lmn := rfl
@[simp] theorem enterPhase_sampling (p : Phase) (timeout : Nat) (s : State) :
    (enterPhase p timeout s).sampling = s.sampling := rfl
@[simp] theorem enterPhase_settings (p : Phase) (timeout : Nat) (s : State) :
    (enterPhase p timeout s).settings = s.settings := rfl
@[simp] theorem enterPhase_sto (p : Phase) (timeout : Nat) (s : State) :
    (enterPhase p timeout s).sto = s.sto := rfl
@[simp] theorem enterPhase_pending (p : Phase) (timeout : Nat) (s : State) :
    (enterPhase p timeout s).pending = s.pending := rfl
@[simp] theorem enterPhase_freeReads (p : Phase) (timeout : Nat) (s : State) :
    (enterPhase p timeout s).freeReads = s.freeReads := rfl

@[simp] theorem endTurn_grd (result : TurnResult) (freezing unsettled : Bool) (s : State) :
    (endTurn result freezing unsettled s).grd = s.grd := by unfold endTurn; split <;> simp
@[simp] theorem endTurn_lmn (result : TurnResult) (freezing unsettled : Bool) (s : State) :
    (endTurn result freezing unsettled s).lmn = s.lmn := by unfold endTurn; split <;> simp
@[simp] theorem endTurn_sampling (result : TurnResult) (freezing unsettled : Bool) (s : State) :
    (endTurn result freezing unsettled s).sampling = s.sampling := by unfold endTurn; split <;> simp
@[simp] theorem endTurn_settings (result : TurnResult) (freezing unsettled : Bool) (s : State) :
    (endTurn result freezing unsettled s).settings = s.settings := by unfold endTurn; split <;> simp
@[simp] theorem endTurn_sto (result : TurnResult) (freezing unsettled : Bool) (s : State) :
    (endTurn result freezing unsettled s).sto = s.sto := by unfold endTurn; split <;> simp
@[simp] theorem endTurn_pending (result : TurnResult) (freezing unsettled : Bool) (s : State) :
    (endTurn result freezing unsettled s).pending = s.pending := by unfold endTurn; split <;> simp
@[simp] theorem endTurn_freeReads (result : TurnResult) (freezing unsettled : Bool) (s : State) :
    (endTurn result freezing unsettled s).freeReads = s.freeReads := by unfold endTurn; split <;> simp

@[simp] theorem dropRun_grd (s : State) : (dropRun s).grd = s.grd := rfl
@[simp] theorem dropRun_lmn (s : State) : (dropRun s).lmn = s.lmn := rfl
@[simp] theorem dropRun_sampling (s : State) : (dropRun s).sampling = s.sampling := rfl
@[simp] theorem dropRun_settings (s : State) : (dropRun s).settings = s.settings := rfl
@[simp] theorem dropRun_sto (s : State) : (dropRun s).sto = s.sto := rfl
@[simp] theorem dropRun_pending (s : State) : (dropRun s).pending = s.pending := rfl
@[simp] theorem dropRun_freeReads (s : State) : (dropRun s).freeReads = s.freeReads := rfl

@[simp] theorem enterFaulted_grd (k : FaultKind) (s : State) :
    (enterFaulted k s).grd = s.grd := by simp [enterFaulted]
@[simp] theorem enterFaulted_lmn (k : FaultKind) (s : State) :
    (enterFaulted k s).lmn = s.lmn := by simp [enterFaulted]
@[simp] theorem enterFaulted_sampling (k : FaultKind) (s : State) :
    (enterFaulted k s).sampling = s.sampling := by simp [enterFaulted]
@[simp] theorem enterFaulted_settings (k : FaultKind) (s : State) :
    (enterFaulted k s).settings = s.settings := by simp [enterFaulted]
@[simp] theorem enterFaulted_sto (k : FaultKind) (s : State) :
    (enterFaulted k s).sto = s.sto := by simp [enterFaulted]
@[simp] theorem enterFaulted_pending (k : FaultKind) (s : State) :
    (enterFaulted k s).pending = s.pending := by simp [enterFaulted]
@[simp] theorem enterFaulted_freeReads (k : FaultKind) (s : State) :
    (enterFaulted k s).freeReads = s.freeReads := by simp [enterFaulted]

@[simp] theorem faultMove_grd (k : FaultKind) (s : State) :
    (faultMove k s).grd = s.grd := by simp [faultMove]
@[simp] theorem faultMove_lmn (k : FaultKind) (s : State) :
    (faultMove k s).lmn = s.lmn := by simp [faultMove]
@[simp] theorem faultMove_sampling (k : FaultKind) (s : State) :
    (faultMove k s).sampling = s.sampling := by simp [faultMove]
@[simp] theorem faultMove_settings (k : FaultKind) (s : State) :
    (faultMove k s).settings = s.settings := by simp [faultMove]
@[simp] theorem faultMove_sto (k : FaultKind) (s : State) :
    (faultMove k s).sto = s.sto := by simp [faultMove]
@[simp] theorem faultMove_pending (k : FaultKind) (s : State) :
    (faultMove k s).pending = s.pending := by simp [faultMove]
@[simp] theorem faultMove_freeReads (k : FaultKind) (s : State) :
    (faultMove k s).freeReads = s.freeReads := by simp [faultMove]

@[simp] theorem homed_grd (s : State) : (homed s).grd = s.grd := by simp [homed]
@[simp] theorem homed_lmn (s : State) : (homed s).lmn = s.lmn := by simp [homed]
@[simp] theorem homed_sampling (s : State) : (homed s).sampling = s.sampling := by simp [homed]
@[simp] theorem homed_settings (s : State) : (homed s).settings = s.settings := by simp [homed]
@[simp] theorem homed_sto (s : State) : (homed s).sto = s.sto := by simp [homed]
@[simp] theorem homed_pending (s : State) : (homed s).pending = s.pending := by simp [homed]
@[simp] theorem homed_freeReads (s : State) : (homed s).freeReads = s.freeReads := by simp [homed]

@[simp] theorem homeFailed_grd (s : State) : (homeFailed s).grd = s.grd := by simp [homeFailed]
@[simp] theorem homeFailed_lmn (s : State) : (homeFailed s).lmn = s.lmn := by simp [homeFailed]
@[simp] theorem homeFailed_sampling (s : State) : (homeFailed s).sampling = s.sampling := by simp [homeFailed]
@[simp] theorem homeFailed_settings (s : State) :
    (homeFailed s).settings = s.settings := by simp [homeFailed]
@[simp] theorem homeFailed_sto (s : State) : (homeFailed s).sto = s.sto := by simp [homeFailed]
@[simp] theorem homeFailed_pending (s : State) : (homeFailed s).pending = s.pending := by simp [homeFailed]
@[simp] theorem homeFailed_freeReads (s : State) :
    (homeFailed s).freeReads = s.freeReads := by simp [homeFailed]

@[simp] theorem enterSettle_grd (s : State) : (enterSettle s).grd = s.grd := rfl
@[simp] theorem enterSettle_lmn (s : State) : (enterSettle s).lmn = s.lmn := rfl
@[simp] theorem enterSettle_sampling (s : State) : (enterSettle s).sampling = s.sampling := rfl
@[simp] theorem enterSettle_settings (s : State) : (enterSettle s).settings = s.settings := rfl
@[simp] theorem enterSettle_sto (s : State) : (enterSettle s).sto = s.sto := rfl
@[simp] theorem enterSettle_pending (s : State) : (enterSettle s).pending = s.pending := rfl
@[simp] theorem enterSettle_freeReads (s : State) : (enterSettle s).freeReads = s.freeReads := rfl

@[simp] theorem settleDecision_grd (s : State) :
    (settleDecision s).grd = s.grd := by
  simp only [settleDecision]
  repeat' split
  all_goals simp
@[simp] theorem settleDecision_lmn (s : State) :
    (settleDecision s).lmn = s.lmn := by
  simp only [settleDecision]
  repeat' split
  all_goals simp
@[simp] theorem settleDecision_sampling (s : State) :
    (settleDecision s).sampling = s.sampling := by
  simp only [settleDecision]
  repeat' split
  all_goals simp
@[simp] theorem settleDecision_settings (s : State) :
    (settleDecision s).settings = s.settings := by
  simp only [settleDecision]
  repeat' split
  all_goals simp
@[simp] theorem settleDecision_sto (s : State) :
    (settleDecision s).sto = s.sto := by
  simp only [settleDecision]
  repeat' split
  all_goals simp
@[simp] theorem settleDecision_pending (s : State) :
    (settleDecision s).pending = s.pending := by
  simp only [settleDecision]
  repeat' split
  all_goals simp
@[simp] theorem settleDecision_freeReads (s : State) :
    (settleDecision s).freeReads = s.freeReads := by
  simp only [settleDecision]
  repeat' split
  all_goals simp

@[simp] theorem settled_grd (atLimit : Bool) (s : State) :
    (settled atLimit s).grd = s.grd := by
  simp only [settled]
  repeat' split
  all_goals simp
@[simp] theorem settled_lmn (atLimit : Bool) (s : State) :
    (settled atLimit s).lmn = s.lmn := by
  simp only [settled]
  repeat' split
  all_goals simp
@[simp] theorem settled_sampling (atLimit : Bool) (s : State) :
    (settled atLimit s).sampling = s.sampling := by
  simp only [settled]
  repeat' split
  all_goals simp
@[simp] theorem settled_settings (atLimit : Bool) (s : State) :
    (settled atLimit s).settings = s.settings := by
  simp only [settled]
  repeat' split
  all_goals simp
@[simp] theorem settled_sto (atLimit : Bool) (s : State) :
    (settled atLimit s).sto = s.sto := by
  simp only [settled]
  repeat' split
  all_goals simp
@[simp] theorem settled_pending (atLimit : Bool) (s : State) :
    (settled atLimit s).pending = s.pending := by
  simp only [settled]
  repeat' split
  all_goals simp
@[simp] theorem settled_freeReads (atLimit : Bool) (s : State) :
    (settled atLimit s).freeReads = s.freeReads := by
  simp only [settled]
  repeat' split
  all_goals simp

@[simp] theorem platenDownDone_grd (s : State) :
    (platenDownDone s).grd = s.grd := by unfold platenDownDone; split <;> simp
@[simp] theorem platenDownDone_lmn (s : State) :
    (platenDownDone s).lmn = s.lmn := by unfold platenDownDone; split <;> simp
@[simp] theorem platenDownDone_sampling (s : State) :
    (platenDownDone s).sampling = s.sampling := by unfold platenDownDone; split <;> simp
@[simp] theorem platenDownDone_settings (s : State) :
    (platenDownDone s).settings = s.settings := by unfold platenDownDone; split <;> simp
@[simp] theorem platenDownDone_sto (s : State) :
    (platenDownDone s).sto = s.sto := by unfold platenDownDone; split <;> simp
@[simp] theorem platenDownDone_pending (s : State) :
    (platenDownDone s).pending = s.pending := by unfold platenDownDone; split <;> simp
@[simp] theorem platenDownDone_freeReads (s : State) :
    (platenDownDone s).freeReads = s.freeReads := by unfold platenDownDone; split <;> simp

@[simp] theorem enterPlatenDown_grd (s : State) :
    (enterPlatenDown s).grd = s.grd := by unfold enterPlatenDown; split <;> simp
@[simp] theorem enterPlatenDown_lmn (s : State) :
    (enterPlatenDown s).lmn = s.lmn := by unfold enterPlatenDown; split <;> simp
@[simp] theorem enterPlatenDown_sampling (s : State) :
    (enterPlatenDown s).sampling = s.sampling := by unfold enterPlatenDown; split <;> simp
@[simp] theorem enterPlatenDown_settings (s : State) :
    (enterPlatenDown s).settings = s.settings := by unfold enterPlatenDown; split <;> simp
@[simp] theorem enterPlatenDown_sto (s : State) :
    (enterPlatenDown s).sto = s.sto := by unfold enterPlatenDown; split <;> simp
@[simp] theorem enterPlatenDown_pending (s : State) :
    (enterPlatenDown s).pending = s.pending := by unfold enterPlatenDown; split <;> simp
@[simp] theorem enterPlatenDown_freeReads (s : State) :
    (enterPlatenDown s).freeReads = s.freeReads := by unfold enterPlatenDown; split <;> simp

@[simp] theorem returnDone_grd (s : State) :
    (returnDone s).grd = s.grd := by unfold returnDone; split <;> simp
@[simp] theorem returnDone_lmn (s : State) :
    (returnDone s).lmn = s.lmn := by unfold returnDone; split <;> simp
@[simp] theorem returnDone_sampling (s : State) :
    (returnDone s).sampling = s.sampling := by unfold returnDone; split <;> simp
@[simp] theorem returnDone_settings (s : State) :
    (returnDone s).settings = s.settings := by unfold returnDone; split <;> simp
@[simp] theorem returnDone_sto (s : State) :
    (returnDone s).sto = s.sto := by unfold returnDone; split <;> simp
@[simp] theorem returnDone_pending (s : State) :
    (returnDone s).pending = s.pending := by unfold returnDone; split <;> simp
@[simp] theorem returnDone_freeReads (s : State) :
    (returnDone s).freeReads = s.freeReads := by unfold returnDone; split <;> simp

@[simp] theorem enterReturn_grd (s : State) :
    (enterReturn s).grd = s.grd := by unfold enterReturn; split <;> simp
@[simp] theorem enterReturn_lmn (s : State) :
    (enterReturn s).lmn = s.lmn := by unfold enterReturn; split <;> simp
@[simp] theorem enterReturn_sampling (s : State) :
    (enterReturn s).sampling = s.sampling := by unfold enterReturn; split <;> simp
@[simp] theorem enterReturn_settings (s : State) :
    (enterReturn s).settings = s.settings := by unfold enterReturn; split <;> simp
@[simp] theorem enterReturn_sto (s : State) :
    (enterReturn s).sto = s.sto := by unfold enterReturn; split <;> simp
@[simp] theorem enterReturn_pending (s : State) :
    (enterReturn s).pending = s.pending := by unfold enterReturn; split <;> simp
@[simp] theorem enterReturn_freeReads (s : State) :
    (enterReturn s).freeReads = s.freeReads := by unfold enterReturn; split <;> simp

@[simp] theorem releaseDone_grd (s : State) :
    (releaseDone s).grd = s.grd := by
  simp only [releaseDone]
  repeat' split
  all_goals simp
@[simp] theorem releaseDone_lmn (s : State) :
    (releaseDone s).lmn = s.lmn := by
  simp only [releaseDone]
  repeat' split
  all_goals simp
@[simp] theorem releaseDone_sampling (s : State) :
    (releaseDone s).sampling = s.sampling := by
  simp only [releaseDone]
  repeat' split
  all_goals simp
@[simp] theorem releaseDone_settings (s : State) :
    (releaseDone s).settings = s.settings := by
  simp only [releaseDone]
  repeat' split
  all_goals simp
@[simp] theorem releaseDone_sto (s : State) :
    (releaseDone s).sto = s.sto := by
  simp only [releaseDone]
  repeat' split
  all_goals simp
@[simp] theorem releaseDone_pending (s : State) :
    (releaseDone s).pending = s.pending := by
  simp only [releaseDone]
  repeat' split
  all_goals simp
@[simp] theorem releaseDone_freeReads (s : State) :
    (releaseDone s).freeReads = s.freeReads := by
  simp only [releaseDone]
  repeat' split
  all_goals simp

@[simp] theorem enterRelease_grd (s : State) :
    (enterRelease s).grd = s.grd := by unfold enterRelease; split <;> simp
@[simp] theorem enterRelease_lmn (s : State) :
    (enterRelease s).lmn = s.lmn := by unfold enterRelease; split <;> simp
@[simp] theorem enterRelease_sampling (s : State) :
    (enterRelease s).sampling = s.sampling := by unfold enterRelease; split <;> simp
@[simp] theorem enterRelease_settings (s : State) :
    (enterRelease s).settings = s.settings := by unfold enterRelease; split <;> simp
@[simp] theorem enterRelease_sto (s : State) :
    (enterRelease s).sto = s.sto := by unfold enterRelease; split <;> simp
@[simp] theorem enterRelease_pending (s : State) :
    (enterRelease s).pending = s.pending := by unfold enterRelease; split <;> simp
@[simp] theorem enterRelease_freeReads (s : State) :
    (enterRelease s).freeReads = s.freeReads := by unfold enterRelease; split <;> simp

@[simp] theorem markReversal_grd (s : State) : (markReversal s).grd = s.grd := rfl
@[simp] theorem markReversal_lmn (s : State) : (markReversal s).lmn = s.lmn := rfl
@[simp] theorem markReversal_sampling (s : State) : (markReversal s).sampling = s.sampling := rfl
@[simp] theorem markReversal_settings (s : State) : (markReversal s).settings = s.settings := rfl
@[simp] theorem markReversal_sto (s : State) : (markReversal s).sto = s.sto := rfl
@[simp] theorem markReversal_pending (s : State) : (markReversal s).pending = s.pending := rfl
@[simp] theorem markReversal_freeReads (s : State) : (markReversal s).freeReads = s.freeReads := rfl

@[simp] theorem enterReverseCarry_grd (s : State) : (enterReverseCarry s).grd = s.grd := rfl
@[simp] theorem enterReverseCarry_lmn (s : State) : (enterReverseCarry s).lmn = s.lmn := rfl
@[simp] theorem enterReverseCarry_sampling (s : State) : (enterReverseCarry s).sampling = s.sampling := rfl
@[simp] theorem enterReverseCarry_settings (s : State) : (enterReverseCarry s).settings = s.settings := rfl
@[simp] theorem enterReverseCarry_sto (s : State) : (enterReverseCarry s).sto = s.sto := rfl
@[simp] theorem enterReverseCarry_pending (s : State) : (enterReverseCarry s).pending = s.pending := rfl
@[simp] theorem enterReverseCarry_freeReads (s : State) :
    (enterReverseCarry s).freeReads = s.freeReads := rfl

@[simp] theorem enterCarry_grd (g : Gauge) (s : State) :
    (enterCarry g s).grd = s.grd := by unfold enterCarry; split <;> simp
@[simp] theorem enterCarry_lmn (g : Gauge) (s : State) :
    (enterCarry g s).lmn = s.lmn := by unfold enterCarry; split <;> simp
@[simp] theorem enterCarry_sampling (g : Gauge) (s : State) :
    (enterCarry g s).sampling = s.sampling := by unfold enterCarry; split <;> simp
@[simp] theorem enterCarry_settings (g : Gauge) (s : State) :
    (enterCarry g s).settings = s.settings := by unfold enterCarry; split <;> simp
@[simp] theorem enterCarry_sto (g : Gauge) (s : State) :
    (enterCarry g s).sto = s.sto := by unfold enterCarry; split <;> simp
@[simp] theorem enterCarry_pending (g : Gauge) (s : State) :
    (enterCarry g s).pending = s.pending := by unfold enterCarry; split <;> simp
@[simp] theorem enterCarry_freeReads (g : Gauge) (s : State) :
    (enterCarry g s).freeReads = s.freeReads := by unfold enterCarry; split <;> simp

@[simp] theorem carryDone_grd (g : Gauge) (s : State) :
    (carryDone g s).grd = s.grd := by unfold carryDone; split <;> simp
@[simp] theorem carryDone_lmn (g : Gauge) (s : State) :
    (carryDone g s).lmn = s.lmn := by unfold carryDone; split <;> simp
@[simp] theorem carryDone_sampling (g : Gauge) (s : State) :
    (carryDone g s).sampling = s.sampling := by unfold carryDone; split <;> simp
@[simp] theorem carryDone_settings (g : Gauge) (s : State) :
    (carryDone g s).settings = s.settings := by unfold carryDone; split <;> simp
@[simp] theorem carryDone_sto (g : Gauge) (s : State) :
    (carryDone g s).sto = s.sto := by unfold carryDone; split <;> simp
@[simp] theorem carryDone_pending (g : Gauge) (s : State) :
    (carryDone g s).pending = s.pending := by unfold carryDone; split <;> simp
@[simp] theorem carryDone_freeReads (g : Gauge) (s : State) :
    (carryDone g s).freeReads = s.freeReads := by unfold carryDone; split <;> simp

@[simp] theorem enterGrip_grd (g : Gauge) (s : State) :
    (enterGrip g s).grd = s.grd := by unfold enterGrip; split <;> simp
@[simp] theorem enterGrip_lmn (g : Gauge) (s : State) :
    (enterGrip g s).lmn = s.lmn := by unfold enterGrip; split <;> simp
@[simp] theorem enterGrip_sampling (g : Gauge) (s : State) :
    (enterGrip g s).sampling = s.sampling := by unfold enterGrip; split <;> simp
@[simp] theorem enterGrip_settings (g : Gauge) (s : State) :
    (enterGrip g s).settings = s.settings := by unfold enterGrip; split <;> simp
@[simp] theorem enterGrip_sto (g : Gauge) (s : State) :
    (enterGrip g s).sto = s.sto := by unfold enterGrip; split <;> simp
@[simp] theorem enterGrip_pending (g : Gauge) (s : State) :
    (enterGrip g s).pending = s.pending := by unfold enterGrip; split <;> simp
@[simp] theorem enterGrip_freeReads (g : Gauge) (s : State) :
    (enterGrip g s).freeReads = s.freeReads := by unfold enterGrip; split <;> simp

@[simp] theorem enterLift_grd (g : Gauge) (s : State) :
    (enterLift g s).grd = s.grd := by unfold enterLift; split <;> simp
@[simp] theorem enterLift_lmn (g : Gauge) (s : State) :
    (enterLift g s).lmn = s.lmn := by unfold enterLift; split <;> simp
@[simp] theorem enterLift_sampling (g : Gauge) (s : State) :
    (enterLift g s).sampling = s.sampling := by unfold enterLift; split <;> simp
@[simp] theorem enterLift_settings (g : Gauge) (s : State) :
    (enterLift g s).settings = s.settings := by unfold enterLift; split <;> simp
@[simp] theorem enterLift_sto (g : Gauge) (s : State) :
    (enterLift g s).sto = s.sto := by unfold enterLift; split <;> simp
@[simp] theorem enterLift_pending (g : Gauge) (s : State) :
    (enterLift g s).pending = s.pending := by unfold enterLift; split <;> simp
@[simp] theorem enterLift_freeReads (g : Gauge) (s : State) :
    (enterLift g s).freeReads = s.freeReads := by unfold enterLift; split <;> simp

@[simp] theorem enterAwaitHand_grd (s : State) : (enterAwaitHand s).grd = s.grd := by simp [enterAwaitHand]
@[simp] theorem enterAwaitHand_lmn (s : State) : (enterAwaitHand s).lmn = s.lmn := by simp [enterAwaitHand]
@[simp] theorem enterAwaitHand_sampling (s : State) : (enterAwaitHand s).sampling = s.sampling := by simp [enterAwaitHand]
@[simp] theorem enterAwaitHand_settings (s : State) :
    (enterAwaitHand s).settings = s.settings := by simp [enterAwaitHand]
@[simp] theorem enterAwaitHand_sto (s : State) : (enterAwaitHand s).sto = s.sto := by simp [enterAwaitHand]
@[simp] theorem enterAwaitHand_pending (s : State) :
    (enterAwaitHand s).pending = s.pending := by simp [enterAwaitHand]
@[simp] theorem enterAwaitHand_freeReads (s : State) :
    (enterAwaitHand s).freeReads = s.freeReads := by simp [enterAwaitHand]

@[simp] theorem platenUpDone_grd (g : Gauge) (s : State) :
    (platenUpDone g s).grd = s.grd := by
  simp only [platenUpDone]
  repeat' split
  all_goals simp
@[simp] theorem platenUpDone_lmn (g : Gauge) (s : State) :
    (platenUpDone g s).lmn = s.lmn := by
  simp only [platenUpDone]
  repeat' split
  all_goals simp
@[simp] theorem platenUpDone_sampling (g : Gauge) (s : State) :
    (platenUpDone g s).sampling = s.sampling := by
  simp only [platenUpDone]
  repeat' split
  all_goals simp
@[simp] theorem platenUpDone_settings (g : Gauge) (s : State) :
    (platenUpDone g s).settings = s.settings := by
  simp only [platenUpDone]
  repeat' split
  all_goals simp
@[simp] theorem platenUpDone_sto (g : Gauge) (s : State) :
    (platenUpDone g s).sto = s.sto := by
  simp only [platenUpDone]
  repeat' split
  all_goals simp
@[simp] theorem platenUpDone_pending (g : Gauge) (s : State) :
    (platenUpDone g s).pending = s.pending := by
  simp only [platenUpDone]
  repeat' split
  all_goals simp
@[simp] theorem platenUpDone_freeReads (g : Gauge) (s : State) :
    (platenUpDone g s).freeReads = s.freeReads := by
  simp only [platenUpDone]
  repeat' split
  all_goals simp

@[simp] theorem enterPlatenUp_grd (g : Gauge) (s : State) :
    (enterPlatenUp g s).grd = s.grd := by unfold enterPlatenUp; split <;> simp
@[simp] theorem enterPlatenUp_lmn (g : Gauge) (s : State) :
    (enterPlatenUp g s).lmn = s.lmn := by unfold enterPlatenUp; split <;> simp
@[simp] theorem enterPlatenUp_sampling (g : Gauge) (s : State) :
    (enterPlatenUp g s).sampling = s.sampling := by unfold enterPlatenUp; split <;> simp
@[simp] theorem enterPlatenUp_settings (g : Gauge) (s : State) :
    (enterPlatenUp g s).settings = s.settings := by unfold enterPlatenUp; split <;> simp
@[simp] theorem enterPlatenUp_sto (g : Gauge) (s : State) :
    (enterPlatenUp g s).sto = s.sto := by unfold enterPlatenUp; split <;> simp
@[simp] theorem enterPlatenUp_pending (g : Gauge) (s : State) :
    (enterPlatenUp g s).pending = s.pending := by unfold enterPlatenUp; split <;> simp
@[simp] theorem enterPlatenUp_freeReads (g : Gauge) (s : State) :
    (enterPlatenUp g s).freeReads = s.freeReads := by unfold enterPlatenUp; split <;> simp

@[simp] theorem beginTurn_grd (d : Direction) (g : Gauge) (s : State) :
    (beginTurn d g s).grd = s.grd := by unfold beginTurn; split <;> simp
@[simp] theorem beginTurn_lmn (d : Direction) (g : Gauge) (s : State) :
    (beginTurn d g s).lmn = s.lmn := by unfold beginTurn; split <;> simp
@[simp] theorem beginTurn_sampling (d : Direction) (g : Gauge) (s : State) :
    (beginTurn d g s).sampling = s.sampling := by unfold beginTurn; split <;> simp
@[simp] theorem beginTurn_settings (d : Direction) (g : Gauge) (s : State) :
    (beginTurn d g s).settings = s.settings := by unfold beginTurn; split <;> simp
@[simp] theorem beginTurn_sto (d : Direction) (g : Gauge) (s : State) :
    (beginTurn d g s).sto = s.sto := by unfold beginTurn; split <;> simp
@[simp] theorem beginTurn_pending (d : Direction) (g : Gauge) (s : State) :
    (beginTurn d g s).pending = s.pending := by unfold beginTurn; split <;> simp
@[simp] theorem beginTurn_freeReads (d : Direction) (g : Gauge) (s : State) :
    (beginTurn d g s).freeReads = s.freeReads := by unfold beginTurn; split <;> simp

@[simp] theorem retryPick_grd (g : Gauge) (s : State) : (retryPick g s).grd = s.grd := by simp [retryPick]
@[simp] theorem retryPick_lmn (g : Gauge) (s : State) : (retryPick g s).lmn = s.lmn := by simp [retryPick]
@[simp] theorem retryPick_sampling (g : Gauge) (s : State) : (retryPick g s).sampling = s.sampling := by simp [retryPick]
@[simp] theorem retryPick_settings (g : Gauge) (s : State) :
    (retryPick g s).settings = s.settings := by simp [retryPick]
@[simp] theorem retryPick_sto (g : Gauge) (s : State) : (retryPick g s).sto = s.sto := by simp [retryPick]
@[simp] theorem retryPick_pending (g : Gauge) (s : State) :
    (retryPick g s).pending = s.pending := by simp [retryPick]
@[simp] theorem retryPick_freeReads (g : Gauge) (s : State) :
    (retryPick g s).freeReads = s.freeReads := by simp [retryPick]

@[simp] theorem pickTimeout_grd (g : Gauge) (s : State) :
    (pickTimeout g s).grd = s.grd := by unfold pickTimeout; split <;> simp
@[simp] theorem pickTimeout_lmn (g : Gauge) (s : State) :
    (pickTimeout g s).lmn = s.lmn := by unfold pickTimeout; split <;> simp
@[simp] theorem pickTimeout_sampling (g : Gauge) (s : State) :
    (pickTimeout g s).sampling = s.sampling := by unfold pickTimeout; split <;> simp
@[simp] theorem pickTimeout_settings (g : Gauge) (s : State) :
    (pickTimeout g s).settings = s.settings := by unfold pickTimeout; split <;> simp
@[simp] theorem pickTimeout_sto (g : Gauge) (s : State) :
    (pickTimeout g s).sto = s.sto := by unfold pickTimeout; split <;> simp
@[simp] theorem pickTimeout_pending (g : Gauge) (s : State) :
    (pickTimeout g s).pending = s.pending := by unfold pickTimeout; split <;> simp
@[simp] theorem pickTimeout_freeReads (g : Gauge) (s : State) :
    (pickTimeout g s).freeReads = s.freeReads := by unfold pickTimeout; split <;> simp

@[simp] theorem motionTimeout_grd (s : State) : (motionTimeout s).grd = s.grd := by simp [motionTimeout]
@[simp] theorem motionTimeout_lmn (s : State) : (motionTimeout s).lmn = s.lmn := by simp [motionTimeout]
@[simp] theorem motionTimeout_sampling (s : State) : (motionTimeout s).sampling = s.sampling := by simp [motionTimeout]
@[simp] theorem motionTimeout_settings (s : State) :
    (motionTimeout s).settings = s.settings := by simp [motionTimeout]
@[simp] theorem motionTimeout_sto (s : State) : (motionTimeout s).sto = s.sto := by simp [motionTimeout]
@[simp] theorem motionTimeout_pending (s : State) :
    (motionTimeout s).pending = s.pending := by simp [motionTimeout]
@[simp] theorem motionTimeout_freeReads (s : State) :
    (motionTimeout s).freeReads = s.freeReads := by simp [motionTimeout]

@[simp] theorem phaseTimedOut_grd (g : Gauge) (s : State) :
    (phaseTimedOut g s).grd = s.grd := by
  simp only [phaseTimedOut]
  repeat' split
  all_goals simp
@[simp] theorem phaseTimedOut_lmn (g : Gauge) (s : State) :
    (phaseTimedOut g s).lmn = s.lmn := by
  simp only [phaseTimedOut]
  repeat' split
  all_goals simp
@[simp] theorem phaseTimedOut_sampling (g : Gauge) (s : State) :
    (phaseTimedOut g s).sampling = s.sampling := by
  simp only [phaseTimedOut]
  repeat' split
  all_goals simp
@[simp] theorem phaseTimedOut_settings (g : Gauge) (s : State) :
    (phaseTimedOut g s).settings = s.settings := by
  simp only [phaseTimedOut]
  repeat' split
  all_goals simp
@[simp] theorem phaseTimedOut_sto (g : Gauge) (s : State) :
    (phaseTimedOut g s).sto = s.sto := by
  simp only [phaseTimedOut]
  repeat' split
  all_goals simp
@[simp] theorem phaseTimedOut_pending (g : Gauge) (s : State) :
    (phaseTimedOut g s).pending = s.pending := by
  simp only [phaseTimedOut]
  repeat' split
  all_goals simp
@[simp] theorem phaseTimedOut_freeReads (g : Gauge) (s : State) :
    (phaseTimedOut g s).freeReads = s.freeReads := by
  simp only [phaseTimedOut]
  repeat' split
  all_goals simp

@[simp] theorem markUnsettled_grd (s : State) :
    (markUnsettled s).grd = s.grd := by unfold markUnsettled; split <;> simp
@[simp] theorem markUnsettled_lmn (s : State) :
    (markUnsettled s).lmn = s.lmn := by unfold markUnsettled; split <;> simp
@[simp] theorem markUnsettled_sampling (s : State) :
    (markUnsettled s).sampling = s.sampling := by unfold markUnsettled; split <;> simp
@[simp] theorem markUnsettled_settings (s : State) :
    (markUnsettled s).settings = s.settings := by unfold markUnsettled; split <;> simp
@[simp] theorem markUnsettled_sto (s : State) :
    (markUnsettled s).sto = s.sto := by unfold markUnsettled; split <;> simp
@[simp] theorem markUnsettled_pending (s : State) :
    (markUnsettled s).pending = s.pending := by unfold markUnsettled; split <;> simp
@[simp] theorem markUnsettled_freeReads (s : State) :
    (markUnsettled s).freeReads = s.freeReads := by unfold markUnsettled; split <;> simp

@[simp] theorem abortHoming_grd (s : State) : (abortHoming s).grd = s.grd := by simp [abortHoming]
@[simp] theorem abortHoming_lmn (s : State) : (abortHoming s).lmn = s.lmn := by simp [abortHoming]
@[simp] theorem abortHoming_sampling (s : State) : (abortHoming s).sampling = s.sampling := by simp [abortHoming]
@[simp] theorem abortHoming_settings (s : State) :
    (abortHoming s).settings = s.settings := by simp [abortHoming]
@[simp] theorem abortHoming_sto (s : State) : (abortHoming s).sto = s.sto := by simp [abortHoming]
@[simp] theorem abortHoming_pending (s : State) :
    (abortHoming s).pending = s.pending := by simp [abortHoming]
@[simp] theorem abortHoming_freeReads (s : State) :
    (abortHoming s).freeReads = s.freeReads := by simp [abortHoming]

@[simp] theorem abortTurn_grd (s : State) : (abortTurn s).grd = s.grd := by unfold abortTurn; split <;> simp
@[simp] theorem abortTurn_lmn (s : State) : (abortTurn s).lmn = s.lmn := by unfold abortTurn; split <;> simp
@[simp] theorem abortTurn_sampling (s : State) : (abortTurn s).sampling = s.sampling := by unfold abortTurn; split <;> simp
@[simp] theorem abortTurn_settings (s : State) :
    (abortTurn s).settings = s.settings := by unfold abortTurn; split <;> simp
@[simp] theorem abortTurn_sto (s : State) : (abortTurn s).sto = s.sto := by unfold abortTurn; split <;> simp
@[simp] theorem abortTurn_pending (s : State) :
    (abortTurn s).pending = s.pending := by unfold abortTurn; split <;> simp
@[simp] theorem abortTurn_freeReads (s : State) :
    (abortTurn s).freeReads = s.freeReads := by unfold abortTurn; split <;> simp

@[simp] theorem abortRun_grd (s : State) : (abortRun s).grd = s.grd := by simp [abortRun]
@[simp] theorem abortRun_lmn (s : State) : (abortRun s).lmn = s.lmn := by simp [abortRun]
@[simp] theorem abortRun_sampling (s : State) : (abortRun s).sampling = s.sampling := by simp [abortRun]
@[simp] theorem abortRun_settings (s : State) : (abortRun s).settings = s.settings := by simp [abortRun]
@[simp] theorem abortRun_sto (s : State) : (abortRun s).sto = s.sto := by simp [abortRun]
@[simp] theorem abortRun_pending (s : State) : (abortRun s).pending = s.pending := by simp [abortRun]
@[simp] theorem abortRun_freeReads (s : State) : (abortRun s).freeReads = s.freeReads := by simp [abortRun]

@[simp] theorem abortNow_grd (s : State) :
    (abortNow s).grd = s.grd := by
  simp only [abortNow]
  repeat' split
  all_goals simp
@[simp] theorem abortNow_lmn (s : State) :
    (abortNow s).lmn = s.lmn := by
  simp only [abortNow]
  repeat' split
  all_goals simp
@[simp] theorem abortNow_sampling (s : State) :
    (abortNow s).sampling = s.sampling := by
  simp only [abortNow]
  repeat' split
  all_goals simp
@[simp] theorem abortNow_settings (s : State) :
    (abortNow s).settings = s.settings := by
  simp only [abortNow]
  repeat' split
  all_goals simp
@[simp] theorem abortNow_sto (s : State) :
    (abortNow s).sto = s.sto := by
  simp only [abortNow]
  repeat' split
  all_goals simp
@[simp] theorem abortNow_pending (s : State) :
    (abortNow s).pending = s.pending := by
  simp only [abortNow]
  repeat' split
  all_goals simp
@[simp] theorem abortNow_freeReads (s : State) :
    (abortNow s).freeReads = s.freeReads := by
  simp only [abortNow]
  repeat' split
  all_goals simp

@[simp] theorem tripGuard_lmn (interrupted : Bool) (s : State) :
    (tripGuard interrupted s).lmn = s.lmn := rfl
@[simp] theorem tripGuard_sampling (interrupted : Bool) (s : State) :
    (tripGuard interrupted s).sampling = s.sampling := rfl
@[simp] theorem tripGuard_settings (interrupted : Bool) (s : State) :
    (tripGuard interrupted s).settings = s.settings := rfl
@[simp] theorem tripGuard_sto (interrupted : Bool) (s : State) :
    (tripGuard interrupted s).sto = s.sto := rfl
@[simp] theorem tripGuard_pending (interrupted : Bool) (s : State) :
    (tripGuard interrupted s).pending = s.pending := rfl
@[simp] theorem tripGuard_freeReads (interrupted : Bool) (s : State) :
    (tripGuard interrupted s).freeReads = s.freeReads := rfl

@[simp] theorem tripTurn_grd (s : State) : (tripTurn s).grd = s.grd := by unfold tripTurn; split <;> simp
@[simp] theorem tripTurn_lmn (s : State) : (tripTurn s).lmn = s.lmn := by unfold tripTurn; split <;> simp
@[simp] theorem tripTurn_sampling (s : State) : (tripTurn s).sampling = s.sampling := by unfold tripTurn; split <;> simp
@[simp] theorem tripTurn_settings (s : State) :
    (tripTurn s).settings = s.settings := by unfold tripTurn; split <;> simp
@[simp] theorem tripTurn_sto (s : State) : (tripTurn s).sto = s.sto := by unfold tripTurn; split <;> simp
@[simp] theorem tripTurn_pending (s : State) :
    (tripTurn s).pending = s.pending := by unfold tripTurn; split <;> simp
@[simp] theorem tripTurn_freeReads (s : State) :
    (tripTurn s).freeReads = s.freeReads := by unfold tripTurn; split <;> simp

@[simp] theorem trip_lmn (interrupted : Bool) (s : State) :
    (trip interrupted s).lmn = s.lmn := by simp [trip]
@[simp] theorem trip_sampling (interrupted : Bool) (s : State) :
    (trip interrupted s).sampling = s.sampling := by simp [trip]
@[simp] theorem trip_settings (interrupted : Bool) (s : State) :
    (trip interrupted s).settings = s.settings := by simp [trip]
@[simp] theorem trip_sto (interrupted : Bool) (s : State) :
    (trip interrupted s).sto = s.sto := by simp [trip]
@[simp] theorem trip_pending (interrupted : Bool) (s : State) :
    (trip interrupted s).pending = s.pending := by simp [trip]
@[simp] theorem trip_freeReads (interrupted : Bool) (s : State) :
    (trip interrupted s).freeReads = s.freeReads := by simp [trip]

@[simp] theorem handConfirm_lmn (s : State) :
    (handConfirm s).lmn = s.lmn := by
  simp only [handConfirm]
  repeat' split
  all_goals simp
@[simp] theorem handConfirm_sampling (s : State) :
    (handConfirm s).sampling = s.sampling := by
  simp only [handConfirm]
  repeat' split
  all_goals simp
@[simp] theorem handConfirm_settings (s : State) :
    (handConfirm s).settings = s.settings := by
  simp only [handConfirm]
  repeat' split
  all_goals simp
@[simp] theorem handConfirm_sto (s : State) :
    (handConfirm s).sto = s.sto := by
  simp only [handConfirm]
  repeat' split
  all_goals simp
@[simp] theorem handConfirm_pending (s : State) :
    (handConfirm s).pending = s.pending := by
  simp only [handConfirm]
  repeat' split
  all_goals simp
@[simp] theorem handConfirm_freeReads (s : State) :
    (handConfirm s).freeReads = s.freeReads := by
  simp only [handConfirm]
  repeat' split
  all_goals simp

end Sys2Proof.Machine
end

