-- ==== Sys2Proof/Laws/Link.lean ====
section
/-! SUPPORT. What the link's own operations leave alone, field by field. -/

namespace Sys2Proof.Machine

@[simp] theorem checkError_volume (s : State) :
    (checkError s).volume = s.volume := by simp [checkError]
@[simp] theorem checkError_csq (s : State) :
    (checkError s).csq = s.csq := by simp [checkError]
@[simp] theorem checkError_grd (s : State) :
    (checkError s).grd = s.grd := by simp [checkError]
@[simp] theorem checkError_lmn (s : State) :
    (checkError s).lmn = s.lmn := by simp [checkError]
@[simp] theorem checkError_sampling (s : State) :
    (checkError s).sampling = s.sampling := by simp [checkError]
@[simp] theorem checkError_light (s : State) :
    (checkError s).light = s.light := by simp [checkError]
@[simp] theorem checkError_spu (s : State) :
    (checkError s).spu = s.spu := by simp [checkError]
@[simp] theorem checkError_rq (s : State) :
    (checkError s).rq = s.rq := by simp [checkError]
@[simp] theorem checkError_cth (s : State) :
    (checkError s).cth = s.cth := by simp [checkError]
@[simp] theorem checkError_settings (s : State) :
    (checkError s).settings = s.settings := by simp [checkError]
@[simp] theorem checkError_sto (s : State) :
    (checkError s).sto = s.sto := by simp [checkError]
@[simp] theorem checkError_pending (s : State) :
    (checkError s).pending = s.pending := by simp [checkError]
@[simp] theorem checkError_freeReads (s : State) :
    (checkError s).freeReads = s.freeReads := by simp [checkError]

@[simp] theorem dropFrame_volume (s : State) :
    (dropFrame s).volume = s.volume := by simp [dropFrame]
@[simp] theorem dropFrame_csq (s : State) :
    (dropFrame s).csq = s.csq := by simp [dropFrame]
@[simp] theorem dropFrame_grd (s : State) :
    (dropFrame s).grd = s.grd := by simp [dropFrame]
@[simp] theorem dropFrame_lmn (s : State) :
    (dropFrame s).lmn = s.lmn := by simp [dropFrame]
@[simp] theorem dropFrame_sampling (s : State) :
    (dropFrame s).sampling = s.sampling := by simp [dropFrame]
@[simp] theorem dropFrame_light (s : State) :
    (dropFrame s).light = s.light := by simp [dropFrame]
@[simp] theorem dropFrame_spu (s : State) :
    (dropFrame s).spu = s.spu := by simp [dropFrame]
@[simp] theorem dropFrame_rq (s : State) :
    (dropFrame s).rq = s.rq := by simp [dropFrame]
@[simp] theorem dropFrame_cth (s : State) :
    (dropFrame s).cth = s.cth := by simp [dropFrame]
@[simp] theorem dropFrame_settings (s : State) :
    (dropFrame s).settings = s.settings := by simp [dropFrame]
@[simp] theorem dropFrame_sto (s : State) :
    (dropFrame s).sto = s.sto := by simp [dropFrame]
@[simp] theorem dropFrame_pending (s : State) :
    (dropFrame s).pending = s.pending := by simp [dropFrame]
@[simp] theorem dropFrame_freeReads (s : State) :
    (dropFrame s).freeReads = s.freeReads := by simp [dropFrame]

@[simp] theorem hunt_volume (s : State) :
    (hunt s).volume = s.volume := rfl
@[simp] theorem hunt_csq (s : State) :
    (hunt s).csq = s.csq := rfl
@[simp] theorem hunt_grd (s : State) :
    (hunt s).grd = s.grd := rfl
@[simp] theorem hunt_lmn (s : State) :
    (hunt s).lmn = s.lmn := rfl
@[simp] theorem hunt_sampling (s : State) :
    (hunt s).sampling = s.sampling := rfl
@[simp] theorem hunt_light (s : State) :
    (hunt s).light = s.light := rfl
@[simp] theorem hunt_spu (s : State) :
    (hunt s).spu = s.spu := rfl
@[simp] theorem hunt_rq (s : State) :
    (hunt s).rq = s.rq := rfl
@[simp] theorem hunt_cth (s : State) :
    (hunt s).cth = s.cth := rfl
@[simp] theorem hunt_settings (s : State) :
    (hunt s).settings = s.settings := rfl
@[simp] theorem hunt_sto (s : State) :
    (hunt s).sto = s.sto := rfl
@[simp] theorem hunt_pending (s : State) :
    (hunt s).pending = s.pending := rfl
@[simp] theorem hunt_freeReads (s : State) :
    (hunt s).freeReads = s.freeReads := rfl

@[simp] theorem assemble_volume (r : Receiver) (s : State) :
    (assemble r s).volume = s.volume := rfl
@[simp] theorem assemble_csq (r : Receiver) (s : State) :
    (assemble r s).csq = s.csq := rfl
@[simp] theorem assemble_grd (r : Receiver) (s : State) :
    (assemble r s).grd = s.grd := rfl
@[simp] theorem assemble_lmn (r : Receiver) (s : State) :
    (assemble r s).lmn = s.lmn := rfl
@[simp] theorem assemble_sampling (r : Receiver) (s : State) :
    (assemble r s).sampling = s.sampling := rfl
@[simp] theorem assemble_light (r : Receiver) (s : State) :
    (assemble r s).light = s.light := rfl
@[simp] theorem assemble_spu (r : Receiver) (s : State) :
    (assemble r s).spu = s.spu := rfl
@[simp] theorem assemble_rq (r : Receiver) (s : State) :
    (assemble r s).rq = s.rq := rfl
@[simp] theorem assemble_cth (r : Receiver) (s : State) :
    (assemble r s).cth = s.cth := rfl
@[simp] theorem assemble_settings (r : Receiver) (s : State) :
    (assemble r s).settings = s.settings := rfl
@[simp] theorem assemble_sto (r : Receiver) (s : State) :
    (assemble r s).sto = s.sto := rfl
@[simp] theorem assemble_pending (r : Receiver) (s : State) :
    (assemble r s).pending = s.pending := rfl
@[simp] theorem assemble_freeReads (r : Receiver) (s : State) :
    (assemble r s).freeReads = s.freeReads := rfl

@[simp] theorem serveLength_volume (s : State) :
    (serveLength s).volume = s.volume := by
  unfold serveLength; split
  · split <;> simp
  · rfl
@[simp] theorem serveLength_csq (s : State) :
    (serveLength s).csq = s.csq := by
  unfold serveLength; split
  · split <;> simp
  · rfl
@[simp] theorem serveLength_grd (s : State) :
    (serveLength s).grd = s.grd := by
  unfold serveLength; split
  · split <;> simp
  · rfl
@[simp] theorem serveLength_lmn (s : State) :
    (serveLength s).lmn = s.lmn := by
  unfold serveLength; split
  · split <;> simp
  · rfl
@[simp] theorem serveLength_sampling (s : State) :
    (serveLength s).sampling = s.sampling := by
  unfold serveLength; split
  · split <;> simp
  · rfl
@[simp] theorem serveLength_light (s : State) :
    (serveLength s).light = s.light := by
  unfold serveLength; split
  · split <;> simp
  · rfl
@[simp] theorem serveLength_spu (s : State) :
    (serveLength s).spu = s.spu := by
  unfold serveLength; split
  · split <;> simp
  · rfl
@[simp] theorem serveLength_rq (s : State) :
    (serveLength s).rq = s.rq := by
  unfold serveLength; split
  · split <;> simp
  · rfl
@[simp] theorem serveLength_cth (s : State) :
    (serveLength s).cth = s.cth := by
  unfold serveLength; split
  · split <;> simp
  · rfl
@[simp] theorem serveLength_settings (s : State) :
    (serveLength s).settings = s.settings := by
  unfold serveLength; split
  · split <;> simp
  · rfl
@[simp] theorem serveLength_sto (s : State) :
    (serveLength s).sto = s.sto := by
  unfold serveLength; split
  · split <;> simp
  · rfl
@[simp] theorem serveLength_pending (s : State) :
    (serveLength s).pending = s.pending := by
  unfold serveLength; split
  · split <;> simp
  · rfl
@[simp] theorem serveLength_freeReads (s : State) :
    (serveLength s).freeReads = s.freeReads := by
  unfold serveLength; split
  · split <;> simp
  · rfl

@[simp] theorem offerFrame_volume (r : LinkRequest) (s : State) :
    (offerFrame r s).volume = s.volume := by
  unfold offerFrame; split <;> simp
@[simp] theorem offerFrame_csq (r : LinkRequest) (s : State) :
    (offerFrame r s).csq = s.csq := by
  unfold offerFrame; split <;> simp
@[simp] theorem offerFrame_grd (r : LinkRequest) (s : State) :
    (offerFrame r s).grd = s.grd := by
  unfold offerFrame; split <;> simp
@[simp] theorem offerFrame_lmn (r : LinkRequest) (s : State) :
    (offerFrame r s).lmn = s.lmn := by
  unfold offerFrame; split <;> simp
@[simp] theorem offerFrame_sampling (r : LinkRequest) (s : State) :
    (offerFrame r s).sampling = s.sampling := by
  unfold offerFrame; split <;> simp
@[simp] theorem offerFrame_light (r : LinkRequest) (s : State) :
    (offerFrame r s).light = s.light := by
  unfold offerFrame; split <;> simp
@[simp] theorem offerFrame_spu (r : LinkRequest) (s : State) :
    (offerFrame r s).spu = s.spu := by
  unfold offerFrame; split <;> simp
@[simp] theorem offerFrame_rq (r : LinkRequest) (s : State) :
    (offerFrame r s).rq = s.rq := by
  unfold offerFrame; split <;> simp
@[simp] theorem offerFrame_cth (r : LinkRequest) (s : State) :
    (offerFrame r s).cth = s.cth := by
  unfold offerFrame; split <;> simp
@[simp] theorem offerFrame_settings (r : LinkRequest) (s : State) :
    (offerFrame r s).settings = s.settings := by
  unfold offerFrame; split <;> simp
@[simp] theorem offerFrame_sto (r : LinkRequest) (s : State) :
    (offerFrame r s).sto = s.sto := by
  unfold offerFrame; split <;> simp
@[simp] theorem offerFrame_pending (r : LinkRequest) (s : State) :
    (offerFrame r s).pending = s.pending := by
  unfold offerFrame; split <;> simp
@[simp] theorem offerFrame_freeReads (r : LinkRequest) (s : State) :
    (offerFrame r s).freeReads = s.freeReads := by
  unfold offerFrame; split <;> simp

@[simp] theorem receiveFrame_volume (tag kind : Byte) (body : List Byte) (check : BitVec 16) (s : State) :
    (receiveFrame tag kind body check s).volume = s.volume := by
  unfold receiveFrame; split <;> simp
@[simp] theorem receiveFrame_csq (tag kind : Byte) (body : List Byte) (check : BitVec 16) (s : State) :
    (receiveFrame tag kind body check s).csq = s.csq := by
  unfold receiveFrame; split <;> simp
@[simp] theorem receiveFrame_grd (tag kind : Byte) (body : List Byte) (check : BitVec 16) (s : State) :
    (receiveFrame tag kind body check s).grd = s.grd := by
  unfold receiveFrame; split <;> simp
@[simp] theorem receiveFrame_lmn (tag kind : Byte) (body : List Byte) (check : BitVec 16) (s : State) :
    (receiveFrame tag kind body check s).lmn = s.lmn := by
  unfold receiveFrame; split <;> simp
@[simp] theorem receiveFrame_sampling (tag kind : Byte) (body : List Byte) (check : BitVec 16) (s : State) :
    (receiveFrame tag kind body check s).sampling = s.sampling := by
  unfold receiveFrame; split <;> simp
@[simp] theorem receiveFrame_light (tag kind : Byte) (body : List Byte) (check : BitVec 16) (s : State) :
    (receiveFrame tag kind body check s).light = s.light := by
  unfold receiveFrame; split <;> simp
@[simp] theorem receiveFrame_spu (tag kind : Byte) (body : List Byte) (check : BitVec 16) (s : State) :
    (receiveFrame tag kind body check s).spu = s.spu := by
  unfold receiveFrame; split <;> simp
@[simp] theorem receiveFrame_rq (tag kind : Byte) (body : List Byte) (check : BitVec 16) (s : State) :
    (receiveFrame tag kind body check s).rq = s.rq := by
  unfold receiveFrame; split <;> simp
@[simp] theorem receiveFrame_cth (tag kind : Byte) (body : List Byte) (check : BitVec 16) (s : State) :
    (receiveFrame tag kind body check s).cth = s.cth := by
  unfold receiveFrame; split <;> simp
@[simp] theorem receiveFrame_settings (tag kind : Byte) (body : List Byte) (check : BitVec 16) (s : State) :
    (receiveFrame tag kind body check s).settings = s.settings := by
  unfold receiveFrame; split <;> simp
@[simp] theorem receiveFrame_sto (tag kind : Byte) (body : List Byte) (check : BitVec 16) (s : State) :
    (receiveFrame tag kind body check s).sto = s.sto := by
  unfold receiveFrame; split <;> simp
@[simp] theorem receiveFrame_pending (tag kind : Byte) (body : List Byte) (check : BitVec 16) (s : State) :
    (receiveFrame tag kind body check s).pending = s.pending := by
  unfold receiveFrame; split <;> simp
@[simp] theorem receiveFrame_freeReads (tag kind : Byte) (body : List Byte) (check : BitVec 16) (s : State) :
    (receiveFrame tag kind body check s).freeReads = s.freeReads := by
  unfold receiveFrame; split <;> simp

@[simp] theorem receiveBytes_volume (len : Nat) (bytes : List Byte) (s : State) :
    (receiveBytes len bytes s).volume = s.volume := by
  unfold receiveBytes; split <;> simp
@[simp] theorem receiveBytes_csq (len : Nat) (bytes : List Byte) (s : State) :
    (receiveBytes len bytes s).csq = s.csq := by
  unfold receiveBytes; split <;> simp
@[simp] theorem receiveBytes_grd (len : Nat) (bytes : List Byte) (s : State) :
    (receiveBytes len bytes s).grd = s.grd := by
  unfold receiveBytes; split <;> simp
@[simp] theorem receiveBytes_lmn (len : Nat) (bytes : List Byte) (s : State) :
    (receiveBytes len bytes s).lmn = s.lmn := by
  unfold receiveBytes; split <;> simp
@[simp] theorem receiveBytes_sampling (len : Nat) (bytes : List Byte) (s : State) :
    (receiveBytes len bytes s).sampling = s.sampling := by
  unfold receiveBytes; split <;> simp
@[simp] theorem receiveBytes_light (len : Nat) (bytes : List Byte) (s : State) :
    (receiveBytes len bytes s).light = s.light := by
  unfold receiveBytes; split <;> simp
@[simp] theorem receiveBytes_spu (len : Nat) (bytes : List Byte) (s : State) :
    (receiveBytes len bytes s).spu = s.spu := by
  unfold receiveBytes; split <;> simp
@[simp] theorem receiveBytes_rq (len : Nat) (bytes : List Byte) (s : State) :
    (receiveBytes len bytes s).rq = s.rq := by
  unfold receiveBytes; split <;> simp
@[simp] theorem receiveBytes_cth (len : Nat) (bytes : List Byte) (s : State) :
    (receiveBytes len bytes s).cth = s.cth := by
  unfold receiveBytes; split <;> simp
@[simp] theorem receiveBytes_settings (len : Nat) (bytes : List Byte) (s : State) :
    (receiveBytes len bytes s).settings = s.settings := by
  unfold receiveBytes; split <;> simp
@[simp] theorem receiveBytes_sto (len : Nat) (bytes : List Byte) (s : State) :
    (receiveBytes len bytes s).sto = s.sto := by
  unfold receiveBytes; split <;> simp
@[simp] theorem receiveBytes_pending (len : Nat) (bytes : List Byte) (s : State) :
    (receiveBytes len bytes s).pending = s.pending := by
  unfold receiveBytes; split <;> simp
@[simp] theorem receiveBytes_freeReads (len : Nat) (bytes : List Byte) (s : State) :
    (receiveBytes len bytes s).freeReads = s.freeReads := by
  unfold receiveBytes; split <;> simp

@[simp] theorem receiveByte_volume (b : Byte) (s : State) :
    (receiveByte b s).volume = s.volume := by
  unfold receiveByte; repeat' split
  all_goals simp
@[simp] theorem receiveByte_csq (b : Byte) (s : State) :
    (receiveByte b s).csq = s.csq := by
  unfold receiveByte; repeat' split
  all_goals simp
@[simp] theorem receiveByte_grd (b : Byte) (s : State) :
    (receiveByte b s).grd = s.grd := by
  unfold receiveByte; repeat' split
  all_goals simp
@[simp] theorem receiveByte_lmn (b : Byte) (s : State) :
    (receiveByte b s).lmn = s.lmn := by
  unfold receiveByte; repeat' split
  all_goals simp
@[simp] theorem receiveByte_sampling (b : Byte) (s : State) :
    (receiveByte b s).sampling = s.sampling := by
  unfold receiveByte; repeat' split
  all_goals simp
@[simp] theorem receiveByte_light (b : Byte) (s : State) :
    (receiveByte b s).light = s.light := by
  unfold receiveByte; repeat' split
  all_goals simp
@[simp] theorem receiveByte_spu (b : Byte) (s : State) :
    (receiveByte b s).spu = s.spu := by
  unfold receiveByte; repeat' split
  all_goals simp
@[simp] theorem receiveByte_rq (b : Byte) (s : State) :
    (receiveByte b s).rq = s.rq := by
  unfold receiveByte; repeat' split
  all_goals simp
@[simp] theorem receiveByte_cth (b : Byte) (s : State) :
    (receiveByte b s).cth = s.cth := by
  unfold receiveByte; repeat' split
  all_goals simp
@[simp] theorem receiveByte_settings (b : Byte) (s : State) :
    (receiveByte b s).settings = s.settings := by
  unfold receiveByte; repeat' split
  all_goals simp
@[simp] theorem receiveByte_sto (b : Byte) (s : State) :
    (receiveByte b s).sto = s.sto := by
  unfold receiveByte; repeat' split
  all_goals simp
@[simp] theorem receiveByte_pending (b : Byte) (s : State) :
    (receiveByte b s).pending = s.pending := by
  unfold receiveByte; repeat' split
  all_goals simp
@[simp] theorem receiveByte_freeReads (b : Byte) (s : State) :
    (receiveByte b s).freeReads = s.freeReads := by
  unfold receiveByte; repeat' split
  all_goals simp

/-- A frame dropped or a check error changes the latched conditions by LINK_ERROR alone (R143, R144). -/
@[simp] theorem dropFrame_latched (s : State) :
    (dropFrame s).lif.latched = s.lif.latched ||| condWord .linkError := by simp [dropFrame]
@[simp] theorem checkError_latched (s : State) :
    (checkError s).lif.latched = s.lif.latched ||| condWord .linkError := by simp [checkError]

/-- A reset takes the queue of commands and the free-value counter over, and loads the settings from the
store (R150, R151, log 31). -/
@[simp] theorem resetAll_pending (cause : ResetCause) (straps : BitVec 2) (s : State) :
    (resetAll cause straps s).pending = s.pending := rfl
@[simp] theorem resetAll_freeReads (cause : ResetCause) (straps : BitVec 2) (s : State) :
    (resetAll cause straps s).freeReads = s.freeReads := rfl
@[simp] theorem resetAll_settings (cause : ResetCause) (straps : BitVec 2) (s : State) :
    (resetAll cause straps s).settings = (storeAfter s).getD factorySettings := rfl
@[simp] theorem resetAll_volume (cause : ResetCause) (straps : BitVec 2) (s : State) :
    (resetAll cause straps s).volume = none := rfl
@[simp] theorem resetAll_csq (cause : ResetCause) (straps : BitVec 2) (s : State) :
    (resetAll cause straps s).csq = Csq.reset := rfl
@[simp] theorem resetAll_rq (cause : ResetCause) (straps : BitVec 2) (s : State) :
    (resetAll cause straps s).rq = Rq.reset := rfl
@[simp] theorem resetAll_mask (cause : ResetCause) (straps : BitVec 2) (s : State) :
    (resetAll cause straps s).lif.mask = resetMask := rfl

end Sys2Proof.Machine
end

