-- ==== Sys2Proof/Laws/Inputs.lean ====
section
/-! SUPPORT. What a sample of an input can do (R35, R36): it agrees with the confirmed level, it is a first sample
that waits, or it is the second that confirms. -/

namespace Sys2Proof.Machine

@[simp] theorem noteSample_timer (i : SwitchInput) (b : Bool) (l : Lmn) (x : Sampling) :
    (noteSample i b l x).timer = x.timer := rfl

@[simp] theorem noteSample_due (i : SwitchInput) (b : Bool) (l : Lmn) (x : Sampling) :
    (noteSample i b l x).due = x.due := rfl

@[simp] theorem beginSamples_due (s : State) : (beginSamples s).sampling.due = switchInputs := rfl

@[simp] theorem beginSamples_timer (s : State) :
    (beginSamples s).sampling.timer = startMs s.settings.debounce := rfl

@[simp] theorem beginSamples_waiting (s : State) :
    (beginSamples s).sampling.waiting = s.sampling.waiting := rfl

/-- A sample that agrees with the confirmed level leaves nothing waiting of its input. -/
theorem sampleInput_agrees {g : Gauge} {i : SwitchInput} {b : Bool} {s : State}
    (h : levelOf i s.lmn = some b) :
    sampleInput g i b s =
      conclude s (s.modSampling fun x => { x with waiting := x.waiting.filter (·.1 != i) }) := by
  simp [sampleInput, confirmsSample, noteSample, h, State.modSampling]

/-- A first sample that differs from the confirmed level waits for its second. -/
theorem sampleInput_waits {g : Gauge} {i : SwitchInput} {b : Bool} {s : State}
    (h : levelOf i s.lmn ≠ some b) (hf : firstSample i s.sampling ≠ some b) :
    sampleInput g i b s =
      conclude s (s.modSampling fun x =>
        { x with waiting := (i, b) :: x.waiting.filter (·.1 != i) }) := by
  simp [sampleInput, confirmsSample, noteSample, h, hf, State.modSampling]

/-- A second sample that agrees with the first delivers the change, or the starting level. -/
theorem sampleInput_confirms {g : Gauge} {i : SwitchInput} {b : Bool} {s : State}
    (h : levelOf i s.lmn ≠ some b) (hf : firstSample i s.sampling = some b) :
    sampleInput g i b s =
      exec (confirmation g i b s.lmn)
        (s.modSampling fun x => { x with waiting := x.waiting.filter (·.1 != i) }) := by
  simp [sampleInput, confirmsSample, noteSample, h, hf, State.modSampling]

/-- At most one first sample of an input waits after a sample, where at most one waited before. -/
theorem noteSample_nodup (i : SwitchInput) (b : Bool) (l : Lmn) (x : Sampling)
    (h : (x.waiting.map (·.1)).Nodup) : ((noteSample i b l x).waiting.map (·.1)).Nodup := by
  have hs : ((x.waiting.filter (·.1 != i)).map (·.1)).Nodup :=
    h.sublist (List.filter_sublist.map _)
  unfold noteSample
  split
  · simpa using hs
  · simp [List.nodup_cons, hs]

end Sys2Proof.Machine
end

