-- ==== Sys2Proof/Laws/PerInstr.lean ====
section
/-! SUPPORT. One law per command: the frame of a well-formed request can be sent (R143), and its KIND is one that
R153 assigns. -/

namespace Sys2Proof.Laws.BodyFits

/-- The BODY of a well-formed request is at most 248 bytes, and its KIND is assigned (R143, R153). -/
def Statement (i : Instr) : Prop :=
  WellFormed i = true → ∀ k body, encodeRequest i = some (k, body) →
    body.length ≤ 248 ∧ assignedKind k = true

/-- The length of a number in bytes. -/
theorem length_leBytes (k n : Nat) : (leBytes k n).length = k := by
  induction k generalizing n with
  | zero => rfl
  | succ k ih => simp [leBytes, ih]

theorem length_encodeDrives (d : Eight (BitVec 16)) : (encodeDrives d).length = 16 := by
  simp [encodeDrives, Eight.toList, joinFields, length_leBytes]

theorem length_encodeShots (xs : List ShotFields) : (encodeShots xs).length = 27 * xs.length := by
  induction xs with
  | nil => rfl
  | cons x xs ih =>
    simp [encodeShots, encodeShot, joinFields, length_leBytes, length_encodeDrives, ih]; omega

theorem of_encoded {i : Instr} {k : Byte} {b : List Byte} (e : encodeRequest i = some (k, b))
    (hl : b.length ≤ 248) (ha : assignedKind k = true) : Statement i := by
  intro _ k' b' h
  rw [e] at h
  obtain ⟨rfl, rfl⟩ := Prod.mk.inj (Option.some.inj h)
  exact ⟨hl, ha⟩

theorem of_event {i : Instr} (e : encodeRequest i = none) : Statement i := by
  intro _ k b h
  rw [e] at h
  cases h

theorem openVolume : ∀ a0 a1 a2 a3 a4 a5, Statement (.openVolume a0 a1 a2 a3 a4 a5) := by
  intro a0 a1 a2 a3 a4 a5 hw
  refine of_encoded rfl ?_ rfl hw
  simp [joinFields, length_leBytes, WellFormed] at hw ⊢
  omega
theorem closeVolume : Statement (.closeVolume) :=
  of_encoded rfl (by simp) rfl
theorem queryVolume : Statement (.queryVolume) :=
  of_encoded rfl (by simp) rfl
theorem defineSpan : ∀ a0 a1 a2 a3, Statement (.defineSpan a0 a1 a2 a3) :=
  fun _ _ _ _ => of_encoded rfl (by simp [joinFields, length_leBytes]) rfl
theorem deleteSpan : ∀ a0, Statement (.deleteSpan a0) :=
  fun _ => of_encoded rfl (by simp [joinFields, length_leBytes]) rfl
theorem querySpan : ∀ a0, Statement (.querySpan a0) :=
  fun _ => of_encoded rfl (by simp [joinFields, length_leBytes]) rfl
theorem markLeaf : ∀ a0 a1 a2 a3, Statement (.markLeaf a0 a1 a2 a3) :=
  fun _ _ _ _ => of_encoded rfl (by simp [joinFields, length_leBytes]) rfl
theorem queryLeaf : ∀ a0, Statement (.queryLeaf a0) :=
  fun _ => of_encoded rfl (by simp [joinFields, length_leBytes]) rfl
theorem setPosition : ∀ a0, Statement (.setPosition a0) :=
  fun _ => of_encoded rfl (by simp [joinFields, length_leBytes]) rfl
theorem setMark : ∀ a0 a1 a2 a3 a4, Statement (.setMark a0 a1 a2 a3 a4) :=
  fun _ _ _ _ _ => of_encoded rfl (by simp [joinFields, length_leBytes]) rfl
theorem clearMark : ∀ a0, Statement (.clearMark a0) :=
  fun _ => of_encoded rfl (by simp [joinFields, length_leBytes]) rfl
theorem queryMarks : Statement (.queryMarks) :=
  of_encoded rfl (by simp) rfl
theorem enterInsert : ∀ a0 a1, Statement (.enterInsert a0 a1) :=
  fun _ _ => of_encoded rfl (by simp [joinFields, length_leBytes]) rfl
theorem advance : Statement (.advance) :=
  of_encoded rfl (by simp) rfl
theorem leaveInsert : Statement (.leaveInsert) :=
  of_encoded rfl (by simp) rfl
theorem queryInsert : ∀ a0 a1, Statement (.queryInsert a0 a1) :=
  fun _ _ => of_encoded rfl (by simp [joinFields, length_leBytes]) rfl
theorem setDebounce : ∀ a0, Statement (.setDebounce a0) :=
  fun _ => of_encoded rfl (by simp [joinFields, length_leBytes]) rfl
theorem home : Statement (.home) :=
  of_encoded rfl (by simp) rfl
theorem arm : Statement (.arm) :=
  of_encoded rfl (by simp) rfl
theorem disarm : Statement (.disarm) :=
  of_encoded rfl (by simp) rfl
theorem run : ∀ a0, Statement (.run a0) :=
  fun _ => of_encoded rfl (by simp [joinFields, length_leBytes]) rfl
theorem turn : ∀ a0, Statement (.turn a0) :=
  fun _ => of_encoded rfl (by simp [joinFields, length_leBytes]) rfl
theorem capture : Statement (.capture) :=
  of_encoded rfl (by simp) rfl
theorem platenUp : Statement (.platenUp) :=
  of_encoded rfl (by simp) rfl
theorem platenDown : Statement (.platenDown) :=
  of_encoded rfl (by simp) rfl
theorem recover : ∀ a0, Statement (.recover a0) :=
  fun _ => of_encoded rfl (by simp [joinFields, length_leBytes]) rfl
theorem setTurnTiming : ∀ a0, Statement (.setTurnTiming a0) :=
  fun _ => of_encoded rfl (by simp [joinFields, length_leBytes]) rfl
theorem queryTurnTiming : Statement (.queryTurnTiming) :=
  of_encoded rfl (by simp) rfl
theorem setStep : ∀ a0, Statement (.setStep a0) :=
  fun _ => of_encoded rfl (by simp [joinFields, length_leBytes]) rfl
theorem resume : ∀ a0, Statement (.resume a0) :=
  fun _ => of_encoded rfl (by simp [joinFields, length_leBytes]) rfl
theorem halt : Statement (.halt) :=
  of_encoded rfl (by simp) rfl
theorem abort : Statement (.abort) :=
  of_encoded rfl (by simp) rfl
theorem setGuardEnable : ∀ a0, Statement (.setGuardEnable a0) :=
  fun _ => of_encoded rfl (by simp [joinFields, length_leBytes]) rfl
theorem readGuard : Statement (.readGuard) :=
  of_encoded rfl (by simp) rfl
theorem clearGuard : Statement (.clearGuard) :=
  of_encoded rfl (by simp) rfl
theorem setCalibration : ∀ a0 a1 a2 a3 a4 a5, Statement (.setCalibration a0 a1 a2 a3 a4 a5) :=
  fun _ _ _ _ _ _ => of_encoded rfl (by simp [joinFields, length_leBytes]) rfl
theorem queryCalibration : ∀ a0, Statement (.queryCalibration a0) :=
  fun _ => of_encoded rfl (by simp [joinFields, length_leBytes]) rfl
theorem previewOn : ∀ a0, Statement (.previewOn a0) :=
  fun _ => of_encoded rfl (by simp [length_encodeDrives]) rfl
theorem previewOff : Statement (.previewOff) :=
  of_encoded rfl (by simp) rfl
theorem setPreviewLimit : ∀ a0, Statement (.setPreviewLimit a0) :=
  fun _ => of_encoded rfl (by simp [joinFields, length_leBytes]) rfl
theorem readLights : Statement (.readLights) :=
  of_encoded rfl (by simp) rfl
theorem setCeilings : ∀ a0 a1, Statement (.setCeilings a0 a1) :=
  fun _ _ => of_encoded rfl (by simp [joinFields, length_leBytes]) rfl
theorem readDose : Statement (.readDose) :=
  of_encoded rfl (by simp) rfl
theorem loadPlan : ∀ a0 a1 a2, Statement (.loadPlan a0 a1 a2) := by
  intro a0 a1 a2 hw
  refine of_encoded rfl ?_ rfl hw
  simp [joinFields, length_leBytes, length_encodeShots, WellFormed] at hw ⊢
  omega
theorem queryPlan : ∀ a0, Statement (.queryPlan a0) :=
  fun _ => of_encoded rfl (by simp [joinFields, length_leBytes]) rfl
theorem readCameras : Statement (.readCameras) :=
  of_encoded rfl (by simp) rfl
theorem setCameraTiming : ∀ a0 a1, Statement (.setCameraTiming a0 a1) :=
  fun _ _ => of_encoded rfl (by simp [joinFields, length_leBytes]) rfl
theorem queryCameraTiming : Statement (.queryCameraTiming) :=
  of_encoded rfl (by simp) rfl
theorem takeResult : Statement (.takeResult) :=
  of_encoded rfl (by simp) rfl
theorem peekResult : Statement (.peekResult) :=
  of_encoded rfl (by simp) rfl
theorem readQueue : Statement (.readQueue) :=
  of_encoded rfl (by simp) rfl
theorem flushResults : Statement (.flushResults) :=
  of_encoded rfl (by simp) rfl
theorem setQueueCapacity : ∀ a0, Statement (.setQueueCapacity a0) :=
  fun _ => of_encoded rfl (by simp [joinFields, length_leBytes]) rfl
theorem setSummaryMode : ∀ a0, Statement (.setSummaryMode a0) :=
  fun _ => of_encoded rfl (by simp [joinFields, length_leBytes]) rfl
theorem clearSummary : Statement (.clearSummary) :=
  of_encoded rfl (by simp) rfl
theorem setStaleInterval : ∀ a0, Statement (.setStaleInterval a0) :=
  fun _ => of_encoded rfl (by simp [joinFields, length_leBytes]) rfl
theorem readTime : Statement (.readTime) :=
  of_encoded rfl (by simp) rfl
theorem setCounter : ∀ a0 a1 a2 a3 a4 a5, Statement (.setCounter a0 a1 a2 a3 a4 a5) :=
  fun _ _ _ _ _ _ => of_encoded rfl (by simp [joinFields, length_leBytes]) rfl
theorem readCounters : Statement (.readCounters) :=
  of_encoded rfl (by simp) rfl
theorem setHistoryEnable : ∀ a0, Statement (.setHistoryEnable a0) :=
  fun _ => of_encoded rfl (by simp [joinFields, length_leBytes]) rfl
theorem readHistory : Statement (.readHistory) :=
  of_encoded rfl (by simp) rfl
theorem readLink : Statement (.readLink) :=
  of_encoded rfl (by simp) rfl
theorem clearLinkCounts : Statement (.clearLinkCounts) :=
  of_encoded rfl (by simp) rfl
theorem readConditions : Statement (.readConditions) :=
  of_encoded rfl (by simp) rfl
theorem clearConditions : ∀ a0, Statement (.clearConditions a0) :=
  fun _ => of_encoded rfl (by simp [joinFields, length_leBytes]) rfl
theorem setMask : ∀ a0, Statement (.setMask a0) :=
  fun _ => of_encoded rfl (by simp [joinFields, length_leBytes]) rfl
theorem setAux : ∀ a0, Statement (.setAux a0) :=
  fun _ => of_encoded rfl (by simp [joinFields, length_leBytes]) rfl
theorem clearAux : ∀ a0, Statement (.clearAux a0) :=
  fun _ => of_encoded rfl (by simp [joinFields, length_leBytes]) rfl
theorem setAuxSource : ∀ a0 a1, Statement (.setAuxSource a0 a1) :=
  fun _ _ => of_encoded rfl (by simp [joinFields, length_leBytes]) rfl
theorem identify : Statement (.identify) :=
  of_encoded rfl (by simp) rfl
theorem reset : Statement (.reset) :=
  of_encoded rfl (by simp) rfl
theorem saveSettings : Statement (.saveSettings) :=
  of_encoded rfl (by simp) rfl
theorem readStore : Statement (.readStore) :=
  of_encoded rfl (by simp) rfl
theorem unknownKind : ∀ a0, Statement (.unknownKind a0) := fun _ => of_event rfl
theorem frameReceived : ∀ a0 a1 a2 a3, Statement (.frameReceived a0 a1 a2 a3) := fun _ _ _ _ => of_event rfl
theorem frameTimeout : Statement (.frameTimeout) := of_event rfl
theorem replySent : Statement .replySent := of_event rfl
theorem noticeSent : Statement (.noticeSent) := of_event rfl
theorem powerOn : ∀ a0, Statement (.powerOn a0) := fun _ => of_event rfl
theorem resetPin : ∀ a0, Statement (.resetPin a0) := fun _ => of_event rfl
theorem supplyFall : ∀ a0, Statement (.supplyFall a0) := fun _ => of_event rfl
theorem saveComplete : Statement (.saveComplete) := of_event rfl
theorem startingLevel : ∀ a0 a1, Statement (.startingLevel a0 a1) := fun _ _ => of_event rfl
theorem pedalPress : Statement (.pedalPress) := of_event rfl
theorem pedalRelease : Statement (.pedalRelease) := of_event rfl
theorem platenUpConfirmed : ∀ a0, Statement (.platenUpConfirmed a0) := fun _ => of_event rfl
theorem liftConfirmed : ∀ a0, Statement (.liftConfirmed a0) := fun _ => of_event rfl
theorem gripConfirmed : ∀ a0, Statement (.gripConfirmed a0) := fun _ => of_event rfl
theorem carryEndConfirmed : ∀ a0, Statement (.carryEndConfirmed a0) := fun _ => of_event rfl
theorem releaseConfirmed : Statement (.releaseConfirmed) := of_event rfl
theorem parkConfirmed : Statement (.parkConfirmed) := of_event rfl
theorem platenDownConfirmed : Statement (.platenDownConfirmed) := of_event rfl
theorem phaseTimeout : ∀ a0, Statement (.phaseTimeout a0) := fun _ => of_event rfl
theorem pageMotionChange : ∀ a0 a1, Statement (.pageMotionChange a0 a1) := fun _ _ => of_event rfl
theorem settleExpiry : Statement (.settleExpiry) := of_event rfl
theorem settleLimitReached : Statement (.settleLimitReached) := of_event rfl
theorem shotBegin : Statement (.shotBegin) := of_event rfl
theorem cameraReadyChange : ∀ a0 a1, Statement (.cameraReadyChange a0 a1) := fun _ _ => of_event rfl
theorem readyWaitExpiry : Statement (.readyWaitExpiry) := of_event rfl
theorem triggerTimerExpiry : Statement (.triggerTimerExpiry) := of_event rfl
theorem trigPulseEnd : Statement (.trigPulseEnd) := of_event rfl
theorem flashTimerExpiry : Statement (.flashTimerExpiry) := of_event rfl
theorem turnBegin : ∀ a0, Statement (.turnBegin a0) := fun _ => of_event rfl
theorem endRecord : Statement (.endRecord) := of_event rfl
theorem exposureEndPulse : ∀ a0, Statement (.exposureEndPulse a0) := fun _ => of_event rfl
theorem frameGraceExpiry : Statement (.frameGraceExpiry) := of_event rfl
theorem lightCurtainIntruded : Statement (.lightCurtainIntruded) := of_event rfl
theorem lightCurtainCleared : Statement (.lightCurtainCleared) := of_event rfl
theorem lampFaultAsserted : ∀ a0, Statement (.lampFaultAsserted a0) := fun _ => of_event rfl
theorem lampFaultCleared : ∀ a0, Statement (.lampFaultCleared a0) := fun _ => of_event rfl
theorem previewTimerExpiry : Statement (.previewTimerExpiry) := of_event rfl
theorem staleTimerExpiry : Statement (.staleTimerExpiry) := of_event rfl
theorem timeBaseWrap : Statement (.timeBaseWrap) := of_event rfl
theorem durationMillisecond : ∀ a0, Statement (.durationMillisecond a0) := fun _ => of_event rfl
theorem byteReceived : ∀ a0, Statement (.byteReceived a0) := fun _ => of_event rfl
theorem feedbackInputDeasserted : ∀ a0, Statement (.feedbackInputDeasserted a0) := fun _ => of_event rfl

end Sys2Proof.Laws.BodyFits
end

