-- ==== Sys2Proof/Laws/Vau.lean ====
section
/-! SUPPORT. What the changes of leaf and side records and the posting of doses leave of a volume: the detour
stack, the frames, the pool's size, the position, and everything else but the records they change. -/

namespace Sys2Proof.Machine

/-- A change of one leaf record changes the leaf table alone. -/
theorem modLeaf_eq (n : Nat) (f : LeafRecord → LeafRecord) (v : Volume) :
    modLeaf n f v = { v with leaves := v.leaves.modify n f } := rfl

/-- A change of one side record changes the leaf table or the pool alone, and neither one's length. -/
theorem modSide_eq (r : SideRef) (f : SideRecord → SideRecord) (v : Volume) :
    ∃ leaves pool, leaves.length = v.leaves.length ∧ pool.length = v.pool.length ∧
      modSide r f v = { v with leaves := leaves, pool := pool } := by
  cases r with
  | leaf n side => exact ⟨_, v.pool, by simp, rfl, rfl⟩
  | insert k i =>
    unfold modSide
    dsimp only
    split
    · exact ⟨v.leaves, _, rfl, by simp, rfl⟩
    · exact ⟨v.leaves, v.pool, rfl, rfl, rfl⟩

/-- A posting of doses changes the accumulator, the peak and the records of the two sides (R97, R103). -/
theorem postDose_eq (left right : SideRef) (dl dr : Nat) (v : Volume) :
    ∃ leaves pool peak, leaves.length = v.leaves.length ∧ pool.length = v.pool.length ∧ v.peak ≤ peak ∧
      postDose left right dl dr v =
        { v with leaves := leaves, pool := pool, peak := peak,
                 accumulator := v.accumulator + (dl + dr) } := by
  obtain ⟨l1, p1, hl1, hp1, e1⟩ := modSide_eq left (fun r => { r with dose := r.dose + dl }) v
  obtain ⟨l2, p2, hl2, hp2, e2⟩ := modSide_eq right (fun r => { r with dose := r.dose + dr })
    { v with leaves := l1, pool := p1 }
  refine ⟨l2, p2, (postDose left right dl dr v).peak, hl2.trans hl1, hp2.trans hp1, ?_, ?_⟩
  · exact Nat.le_max_left _ _
  · simp only [postDose, e1, e2]

@[simp] theorem postDose_accumulator (left right : SideRef) (dl dr : Nat) (v : Volume) :
    (postDose left right dl dr v).accumulator = v.accumulator + (dl + dr) := rfl

/-- The detour's shape (R22, R24): the stack, the frames, the pool's size and a deferred entry. -/
theorem postDose_detour (left right : SideRef) (dl dr : Nat) (v : Volume) :
    (postDose left right dl dr v).stack = v.stack ∧ (postDose left right dl dr v).frames = v.frames ∧
    (postDose left right dl dr v).pool.length = v.pool.length ∧
    (postDose left right dl dr v).deferred = v.deferred := by
  obtain ⟨l, p, k, -, hp, -, e⟩ := postDose_eq left right dl dr v
  rw [e]; exact ⟨rfl, rfl, hp, rfl⟩

theorem modSide_detour (r : SideRef) (f : SideRecord → SideRecord) (v : Volume) :
    (modSide r f v).stack = v.stack ∧ (modSide r f v).frames = v.frames ∧
    (modSide r f v).pool.length = v.pool.length ∧ (modSide r f v).deferred = v.deferred := by
  obtain ⟨l, p, -, hp, e⟩ := modSide_eq r f v
  rw [e]; exact ⟨rfl, rfl, hp, rfl⟩

/-- A turn's move of the position leaves the detour's shape (R16, R53). -/
theorem moveByTurn_detour (d : Direction) (leaf : Nat) (hand : Bool) (v : Volume) :
    (moveByTurn d leaf hand v).stack = v.stack ∧ (moveByTurn d leaf hand v).frames = v.frames ∧
    (moveByTurn d leaf hand v).pool = v.pool ∧ (moveByTurn d leaf hand v).deferred = v.deferred :=
  ⟨rfl, rfl, rfl, rfl⟩

/-- An entry deepens the detour by one level and takes its pool records (R21, R25). -/
theorem pushFrame_detour (parent : Parent) (sides : Nat) (v : Volume) :
    (pushFrame parent sides v).stack.length = v.stack.length + 1 ∧
    (pushFrame parent sides v).frames.length = v.frames.length + 1 ∧
    (pushFrame parent sides v).pool.length = v.pool.length + sides ∧
    (pushFrame parent sides v).deferred = v.deferred := by
  simp [pushFrame]

end Sys2Proof.Machine
end

