-- ==== Sys2Proof/Tests/Slice0.lean ====
section
/-! SUPPORT. Tests of the model on small states: the smoke test of WellFormed, bodies read by hand from the
layouts of R153, the worked cases of the spec's chapters, and a witness for each statement that has
hypotheses. -/

namespace Sys2Proof.Tests

open Sys2Proof Sys2Proof.Machine

/-! ### WellFormed refuses what cannot be sent -/

theorem test_wellFormed_longShelfMark :
    WellFormed (.openVolume (List.replicate 231 0x41) 0 1 0 0 0) = false := by
  simp only [WellFormed, List.length_replicate]
  decide

theorem test_wellFormed_shelfMark : WellFormed (.openVolume [0x41] 0 1 0 0 0) = true := by decide

theorem test_wellFormed_tenShots :
    WellFormed (.loadPlan 0 1 (List.replicate 10 ⟨0, Eight.fill 0, 0, 0, 0, 0⟩)) = false := by decide

theorem test_wellFormed_assignedKind : WellFormed (.unknownKind 0x48) = false := by decide

theorem test_wellFormed_longBody :
    WellFormed (.frameReceived 0 0 (List.replicate 249 0) 0) = false := by
  simp only [WellFormed, List.length_replicate]
  decide

/-! ### Bodies written out from the layouts of R153, low byte first -/

theorem test_read_openVolume :
    decodeRequest 0x01 [2, 0x41, 0x42, 7, 0, 0, 0, 0x2C, 1, 1, 0, 0, 0, 0, 0, 0, 0, 0, 0, 0] =
      .request (.openVolume [0x41, 0x42] 7 300 1 0 0) := by decide

theorem test_read_setMark :
    decodeRequest 0x0A [2, 1, 1, 3, 0, 4, 1] = .request (.setMark 2 1 1 3 260) := by decide

theorem test_read_setCeilings :
    decodeRequest 0x38 [0x40, 0x42, 0x0F, 0, 1, 2, 0, 0, 0, 0] = .request (.setCeilings 1000000 513) := by
  decide

theorem test_read_takeResult : decodeRequest 0x48 [] = .request .takeResult := by decide

theorem test_read_wrongSize : decodeRequest 0x48 [0] = .badLength := by decide

theorem test_read_unassigned : decodeRequest 0x0D [] = .unknown 0x0D := by decide

/-! ### Small states -/

/-- A volume of two text leaves. -/
def volume : Volume := newVolume [0x41] 5 2 .general 5000000 2000000000

/-- The reset state with a volume open and the curtain clear, in a run state. -/
def base (r : RunState) : State :=
  { State.reset with
    volume := some volume
    csq := { Csq.reset with runState := r, armCertain := true }
    lmn := { Lmn.reset with curtain := some false } }

/-- The worked case of chapter 6: channel 0 visible at BOTH, channel 5 ultraviolet at RIGHT. -/
def settings6 : Settings :=
  { factorySettings with
    calibration := ⟨⟨36250, 1000, .both, 2000, true⟩, factoryCalibration .both, factoryCalibration .both,
      factoryCalibration .both, factoryCalibration .both, ⟨4800, 5000, .right, 2000, true⟩,
      factoryCalibration .both, factoryCalibration .both⟩ }

def drives6 : Eight Nat := ⟨750, 0, 0, 0, 0, 1000, 0, 0⟩

def shot6 : Shot :=
  { cameras := .both, drives := drives6, onTime := 8333, delay := 100, tag := 2, policy := .hold }

def plan6 : Plan := { id := 2, shots := [shot6] }

def pass6 (step : ShotStep) : Pass :=
  { plan := plan6, index := 0, step := step, detour := false, unflattened := false, unsettled := false,
    leftSide := .leaf 0 .verso, rightSide := .leaf 1 .recto, leftTally := ⟨false, false, false, false⟩,
    rightTally := ⟨false, false, false, false⟩, shot := ShotInHand.blank }

/-- A continuous run in a pass, its one shot at a step. -/
def passing (step : ShotStep) : State :=
  { base .running with
    csq := { Csq.reset with runState := .running, scope := some .continuous, armCertain := true }
    settings := settings6
    spu := { Spu.reset with active := some plan6, pass := some (pass6 step) } }

def lit6 : Eight Bool := ⟨true, false, false, false, false, true, false, false⟩

def flash6 : Flash := { lit := lit6, drives := drives6, timer := ⟨8333, 8333⟩ }

def flashing : State := { passing (.flash (some ⟨100, 100⟩)) with light := .flash flash6 }

def preview6 : Preview :=
  { lit := lit6, drives := drives6, limit := 60000000, limitLeft := 60000000, timer := ⟨1000, 1000⟩,
    cut := none, cutExpiry := false }

def previewed : State := { base .armed with light := .preview preview6 }

def turn : TurnJob :=
  { direction := .forward, leaf := 1, fromOpening := 0, hand := false, start := 0, reversal := false }

/-- A continuous run in a phase of its turn. -/
def turning (p : Phase) : State :=
  { base .running with
    csq := { Csq.reset with
      runState := .running, scope := some .continuous, armCertain := true, turn := some turn, phase := p
      phaseTimer := some ⟨600000, 600000⟩ } }

def settling : State :=
  { turning .settle with
    csq := { (turning .settle).csq with
      phaseTimer := none, settleTimer := some ⟨400000, 400000⟩, settleLimit := some ⟨3200000, 3200000⟩ } }

def awaiting (a : Awaiting) : State :=
  { base .running with
    csq := { Csq.reset with
      runState := .running, scope := some .continuous, armCertain := true, awaiting := some a } }

def record (n : Nat) : Record :=
  { number := n, stamp := 0, flags := 0, body := .finish ⟨[], 0, 0, 0, 0, 0⟩ }

/-- A queue of `n` records numbered from 1. -/
def queued (n : Nat) : State :=
  { base .armed with
    rq := { Rq.reset with fifo := (List.range n).map (fun i => record (i + 1)), nextNumber := n + 1 } }

def guarded : State :=
  { base .guarded with grd := { latch := true, readSeen := true, interrupted := true } }

/-! ### Worked cases of the spec -/

/-- Chapter 1: leaf 3 verso of a roman span from 1, leaf 9 verso of an arabic span of leaf 4, a board. -/
theorem test_labels :
    let v : Volume := { newVolume [] 0 12 .fragile 1 1 with
      spans := [⟨1, 3, .roman, 1⟩, ⟨4, 6, .arabic, 1⟩, ⟨10, 1, .plate, 1⟩, ⟨11, 2, .arabic, 13⟩] }
    labelOf v 3 .verso = ⟨.roman, 6⟩ ∧ labelOf v 4 .recto = ⟨.arabic, 1⟩ ∧
    labelOf v 9 .verso = ⟨.arabic, 12⟩ ∧ labelOf v 10 .recto = ⟨.plate, 1⟩ ∧
    labelOf v 12 .verso = ⟨.arabic, 16⟩ ∧ labelOf v 13 .recto = ⟨.board, 0⟩ := by decide

/-- Chapter 6: the two predicted doses of 8,333 µs. -/
theorem test_doses :
    let s : State := passing .toBegin
    doseOf (sideRate .left lit6 drives6 s) 8333 = 226554 ∧
    doseOf (sideRate .right lit6 drives6 s) 8333 = 426546 := by decide

/-- Chapter 6: the four decisions of the first worked case at a ceiling of 5,000,000. -/
theorem test_withheld_and_fired :
    let at' (right : Nat) : Volume := { volume with
      accumulator := 800000000
      leaves := [{ LeafRecord.blank with recto := none, verso := some { SideRecord.blank with dose := 1000000 } },
        { LeafRecord.blank with recto := some { SideRecord.blank with dose := right } }] }
    mayFire (at' 4600000) 226554 426546 = false ∧ mayFire (at' 4500000) 226554 426546 = true := by decide

/-- Chapter 6: the cut time of the volume correction. -/
theorem test_cut :
    let v : Volume := { volume with
      accumulator := 1999099999
      leaves := [{ LeafRecord.blank with recto := none, verso := some { SideRecord.blank with dose := 4000000 } },
        { LeafRecord.blank with recto := some { SideRecord.blank with dose := 2000000 } }] }
    cutTime v 725000000 725000000 = some 620689 := by decide

/-- Chapter 5: the effective on-time is bounded by channel 5's flash limit of 300 ms. -/
theorem test_effectiveOnTime :
    effectiveOnTime lit6 500000 { State.reset with settings := { factorySettings with
      calibration := ⟨⟨1, 0, .left, 2000, true⟩, ⟨1, 0, .left, 2000, true⟩, factoryCalibration .both,
        factoryCalibration .both, factoryCalibration .both, ⟨1, 0, .right, 300, true⟩,
        ⟨1, 0, .right, 150, true⟩, factoryCalibration .both⟩ } } = 300000 := by decide

/-- Section 11.3: the ultraviolet shot at 4,600,000 on the right is withheld, and the run holds. -/
theorem test_withhold_holds :
    let v : Volume := { volume with
      accumulator := 42000000
      leaves := [{ LeafRecord.blank with recto := none, verso := some { SideRecord.blank with dose := 1000000 } },
        { LeafRecord.blank with recto := some { SideRecord.blank with dose := 4600000 } }] }
    let t := predictShot shot6 { passing .toBegin with volume := some v }
    t.csq.runState = .held ∧ t.csq.reasons.dose = true ∧ t.light = .dark ∧ t.rq.fifo.length = 1 := by
  decide

/-- Section 11.5: an intrusion in CARRY keeps the vacuum on and marks the motion interrupted. -/
theorem test_trip_in_carry :
    let s : State := { turning .carry with csq := { (turning .carry).csq with
      actuators := ⟨false, false, false, true, true, .toLeft⟩ } }
    (intruded s).csq.runState = .guarded ∧ (intruded s).csq.actuators = ⟨false, false, false, true, false, .rest⟩ ∧
    (intruded s).grd = ⟨true, false, true⟩ ∧ (intruded s).csq.armCertain = false := by decide

/-- R143: a frame's bytes are SYNC, LEN, TAG, KIND, BODY and CHECK. -/
theorem test_frame_layout : (frameBytes 9 0x1A []).take 4 = [0xA5, 2, 9, 0x1A] ∧
    (frameBytes 9 0x1A []).length = 6 := by decide

/-- R35: the second sample that agrees confirms the change; one that has reverted leaves nothing waiting. -/
theorem test_second_sample :
    let s : State := { base .armed with
      lmn := { Lmn.reset with curtain := some false, pedal := some false }
      sampling := { Sampling.reset 5 with waiting := [(.pedal, true)] } }
    (∀ t, sampleInput .single .pedal true s = .next t → t.lmn.pedal = some true ∧ t.sampling.waiting = []) ∧
    (∀ t, sampleInput .single .pedal false s = .next t → t.lmn.pedal = some false ∧ t.sampling.waiting = []) ∧
    (∀ t, sampleInput .single .lightCurtain true s = .next t →
      t.lmn.curtain = some false ∧ t.sampling.waiting = [(.lightCurtain, true), (.pedal, true)]) := by
  refine ⟨?_, ?_, ?_⟩ <;> intro t h <;> cases h <;> decide

/-- R35: 2 ms after a sample at 5 ms a period of 10 ms leaves 8 ms to the next, and one of 1 ms none. -/
theorem test_retime :
    let s : State := { State.reset with sampling := { Sampling.reset 5 with timer := ⟨5000, 3000⟩ } }
    (retime 10 s).sampling.timer = ⟨10000, 8000⟩ ∧ (retime 1 s).sampling.timer = ⟨1000, 0⟩ := by decide

/-- R36, log 10: of the samples low, high, low none gives a starting level; a second high in place of the last does. -/
theorem test_starting_level_in_a_row :
    let l := State.reset.lmn
    let x := noteSample .pedal true l (noteSample .pedal false l (Sampling.reset 5))
    confirmsSample .pedal false l x = false ∧ confirmsSample .pedal true l x = true := by decide

/-- R114: with the delay equal to the on-time the trigger falls within the flash expiry, so the frame it waits for
is not there yet and the grace starts. -/
theorem test_trigger_at_end :
    let s : State := { passing (.flash (some ⟨8333, 5⟩)) with light := .flash { flash6 with timer := ⟨8333, 5⟩ } }
    ∀ t, execTriggerTimerExpiry s = .next t →
      t.light = .dark ∧ t.spu.left.pending = true ∧
        t.spu.pass.map (·.step) = some (.grace ⟨50000, 50000⟩) := by
  intro s t h
  cases h
  decide

/-- R90: a lamp fault that a starting level alone reports does not darken a channel lit in preview. -/
theorem test_starting_level_keeps_light :
    let s : State := { previewed with lmn := { previewed.lmn with lamps := ⟨some true, none, none, none, none, none, none, none⟩ } }
    (∀ p, (atBoundary id s).light = .preview p → p.lit = lit6) ∧
    ∀ p, (lampFailed 5 s).light = .preview p → p.lit = ⟨true, false, false, false, false, false, false, false⟩ := by
  refine ⟨?_, ?_⟩ <;> intro p h <;> cases h <;> decide

/-- The volume with four insert frames, one in the other: the first, of two sides, found at the right half of opening 1. -/
def inserted (deferred : Option Nat) : Volume :=
  { volume with
    frames := [⟨1, .opening 1 .right, 1, 2, 0⟩, ⟨2, .insert 1 0, 2, 1, 2⟩, ⟨3, .insert 2 0, 3, 1, 3⟩,
      ⟨4, .insert 3 0, 4, 1, 4⟩]
    pool := List.replicate 5 SideRecord.blank
    stack := [.insert 3 0, .insert 2 0, .insert 1 0, .opening 1]
    deferred := deferred, position := .insert 4 0 }

/-- Armed at level 4 with preview on. -/
def detoured (deferred : Option Nat) : State := { previewed with volume := some (inserted deferred) }

/-- R29, R34, R153: the bytes of the first frame and of its last side, found at leaf 2 recto, which no span covers. -/
theorem test_query_insert :
    encInsert (inserted none) ⟨1, .opening 1 .right, 1, 2, 0⟩ SideRecord.blank =
      [1, 1, 0, 1, 1, 2, 0, 0, 4, 0, 0, 1, 2, 0, 0, 0, 0, 0, 0, 0, 0, 0, 0, 0, 0, 0, 0] := by decide

/-- R26: an entry at level 4 is deferred and changes no mapping, so the preview period goes on (log 42); a second one
is refused. -/
theorem test_deferred_entry :
    (∀ t, exec (.enterInsert 0 3) (detoured none) = .next t →
      t.volume = some (inserted (some 3)) ∧ t.light = .preview preview6) ∧
    ∀ t, exec (.enterInsert 0 3) (detoured (some 3)) = .next t → t.volume = some (inserted (some 3)) := by
  refine ⟨?_, ?_⟩ <;> intro t h <;> cases h <;> decide

/-- R28: LEAVE INSERT with an entry deferred enters the fifth frame from the place it returns to. -/
theorem test_leave_deferred :
    ∀ t, exec .leaveInsert (detoured (some 3)) = .next t →
      t.volume.map (·.position) = some (.insert 5 0) ∧ t.volume.map (·.stack.length) = some 4 ∧
        t.rq.fifo.length = 2 := by
  intro t h
  cases h
  decide

/-- R70: a taken ABORT in HOMING withdraws a TRIG output that is still asserted. -/
theorem test_abort_homing :
    let s : State := { base .homing with spu := { Spu.reset with
      left := { Port.reset with trig := some ⟨100, 40⟩ } } }
    ∀ t, exec .abort s = .next t →
      t.spu.left.trig = none ∧ t.csq.runState = .unhomed ∧ t.csq.armCertain = false := by
  intro s t h
  cases h
  decide

/-- R57: a SETTLE_EXPIRY given while the settle limit is nearer completes SETTLE normally (log 2). -/
theorem test_settle_over_limit :
    let s : State := { settling with csq := { settling.csq with settleLimit := some ⟨3200000, 1000⟩ } }
    ∀ t, exec .settleExpiry s = .next t →
      t.csq.unsettled = false ∧ t.lif.latched.getLsbD 12 = false ∧ t.cth.timeBase = 400000 := by
  intro s t h
  cases h
  decide

/-- R114: a trigger restarts a pulse of an earlier shot that still stands for a full 100 µs (log 43). -/
theorem test_trigger_restarts_pulse :
    let s : State := { flashing with spu := { flashing.spu with
      left := { flashing.spu.left with trig := some ⟨100, 40⟩ } } }
    (trigger s).spu.left.trig = some ⟨100, 100⟩ ∧ (trigger s).spu.left.pending = true := by decide

/-- R143: the published check value of this CRC over the characters 1 to 9. -/
theorem test_crc : crc16 [0x31, 0x32, 0x33, 0x34, 0x35, 0x36, 0x37, 0x38, 0x39] = 0x29B1 := by decide +kernel

/-! ### Witnesses of the statements' hypotheses -/

/-- A reply at the head of the replies whose sending is over, of a request of the kind that `resets` says. -/
def replied (resets : Bool) : State :=
  { State.reset with lif := { State.reset.lif with
      outbox := [{ tag := 1, kind := 0x82, result := .ok, content := [], fromSlot := false, resets := resets }]
      tx := some { reply := true, bytes := [], timer := ⟨9, 0⟩ } } }

/-- The machine right after reset, with inputs whose sample is due. -/
def sampled (due : List SwitchInput) (left : Nat) : State :=
  { State.reset with sampling := { timer := ⟨5000, left⟩, waiting := [], due := due } }

/-- Idle states with no own event due: a sample due, the samples to begin, and time to pass. -/
theorem witness_idle_samples :
    ownEvent .single (sampled switchInputs 5000) = none ∧ (sampled switchInputs 5000).pending = [] ∧
    (∃ i rest, (sampled switchInputs 5000).sampling.due = i :: rest) ∧
    ownEvent .single (sampled [] 0) = none ∧ (sampled [] 0).sampling.timer.left = 0 ∧
    ownEvent .single (sampled [] 7) = none ∧ (sampled [] 7).sampling.due = [] :=
  ⟨rfl, rfl, ⟨_, _, rfl⟩, rfl, rfl, rfl, rfl⟩

theorem witness_idle :
    ownEvent .single (awaiting .endRecord) = some .endRecord ∧
    ownEvent .single { turning .lift with csq := { (turning .lift).csq with phaseTimer := some ⟨9, 0⟩ } } =
      some (.phaseTimeout .single) ∧
    ownEvent .single (awaiting (.turn .forward)) = some (.turnBegin .single) := by decide

/-- The reset state once its notice has been sent. -/
def quiet : State := { State.reset with lif := { State.reset.lif with tx := none } }

theorem witness_transmitter :
    quiet.lif.tx = none ∧ quiet.lif.outbox = [] ∧ State.reset.lif.tx.isSome = true ∧
    queueWaiting State.reset = queueWaiting quiet := ⟨rfl, rfl, rfl, rfl⟩

/-- A step from a state of an armed machine with a record held and a command waiting. -/
theorem witness_step : ∃ t, step { queued 1 with pending := [.takeResult] } = .next t := ⟨_, rfl⟩

theorem witness_runLaw : RunLaw (queued 1) := by
  refine ⟨?_, ?_, ?_, ?_, ?_, ?_⟩ <;>
    simp [PassPlaced, TurnAlone, PhasePlaced, LightPlaced, GuardPlaced, SetAsidePlaced, queued, base,
      State.reset, Csq.reset, Spu.reset]

theorem witness_queueLaw : QueueLaw (queued 1) := by
  refine ⟨by decide, by simp [queued, Rq.reset], ?_, ?_⟩
  · intro i r h
    match i with
    | 0 => cases h; decide
    | i + 1 => simp [heldRecords, queued, Rq.reset] at h
  · simp [SlotKept, queued, base, State.reset, Csq.reset, Spu.reset]

theorem witness_factory : SettingsInRange factorySettings := by
  refine ⟨fun n => ?_, ?_, ?_⟩
  · match n with
    | 0 | 1 | 2 | 3 | 4 | 5 | 6 | 7 =>
      simp [CalibrationInRange, within, factorySettings, factoryCalibration, Eight.get]
  · simp [TimingInRange, within, factorySettings]
  · simp [within, factorySettings]

theorem witness_settingsLaw : SettingsLaw (queued 1) := by
  refine ⟨witness_factory, ?_, ?_⟩ <;> intro v h <;> cases h

theorem witness_conditionLaw : ConditionLaw (queued 1) := ⟨by decide, by decide⟩

theorem witness_linkLaw : LinkLaw (queued 1) := by
  refine ⟨⟨?_, by decide⟩, by decide, ?_, ?_, by decide, ?_⟩ <;>
    simp [queued, base, State.reset]

theorem witness_detourLaw : DetourLaw (queued 1) := by
  intro v h
  cases h
  refine ⟨by decide, by decide, by decide, ⟨?_, by decide⟩, ?_⟩ <;> simp [volume, newVolume]

/-- The first and the last frame that is held, each with its first and its last side in the pool. -/
theorem witness_frames : DetourLaw (detoured none) ∧ DetourLaw (detoured (some 3)) ∧
    (inserted none).frames.length = 4 ∧ (inserted none).pool[0]?.isSome ∧ (inserted none).pool[1]?.isSome ∧
    (inserted none).pool[4]?.isSome := by
  have order (d : Option Nat) : FramesInOrder (inserted d) := by
    refine ⟨fun i f h => ?_, rfl⟩
    match i with
    | 0 | 1 | 2 | 3 => cases h; exact ⟨rfl, ⟨by decide, by decide⟩, ⟨by decide, by decide⟩, rfl⟩
    | i + 4 => simp [inserted] at h
  refine ⟨?_, ?_, by decide⟩
  · intro v h
    cases h
    exact ⟨by decide, by decide, by decide, order none, nofun⟩
  · intro v h
    cases h
    refine ⟨by decide, by decide, by decide, order (some 3), ?_⟩
    intro n h
    cases h
    exact ⟨rfl, by decide, ⟨by decide, by decide⟩, by decide⟩

/-- ENTER INSERT, ADVANCE and LEAVE INSERT at each level, with and without an entry deferred. -/
theorem witness_levels :
    (detoured none).volume = some (inserted none) ∧ (detoured (some 3)).volume = some (inserted (some 3)) ∧
    (∀ n : Fin 5, ∃ (s : State) (v : Volume), s.volume = some v ∧ v.stack.length = n.val) := by
  refine ⟨rfl, rfl, fun n => ?_⟩
  exact ⟨{ base .armed with volume := some { inserted none with stack := List.replicate n.val (.opening 1) } }, _,
    rfl, List.length_replicate⟩

/-- The halves at the first and the last opening, and at an insert side. -/
theorem witness_halves :
    volume.stack = [] ∧ volume.position = .opening 0 ∧ volume.leafCount = 2 ∧
    (inserted none).stack.getLast? = some (.opening 1) ∧ (inserted none).position = .insert 4 0 ∧
    rightSide (inserted none) = .insert 4 0 ∧ leftSide (inserted none) = .leaf 1 .verso := by decide

/-- A board, a leaf under no span, and the first and the last leaf of a span that alone covers them. -/
theorem witness_labels :
    let p : Span := ⟨2, 3, .arabic, 1⟩
    let v : Volume := { newVolume [] 0 6 .fragile 1 1 with spans := [p, ⟨5, 1, .plate, 1⟩] }
    (∀ q ∈ v.spans, q.first ≤ 2 ∧ 2 < q.first + q.count → q = p) ∧
    (∀ q ∈ v.spans, q.first ≤ 4 ∧ 4 < q.first + q.count → q = p) ∧ p ∈ v.spans ∧
    (∀ q ∈ v.spans, ¬ (q.first ≤ 1 ∧ 1 < q.first + q.count)) ∧
    (∀ q ∈ v.spans, ¬ (q.first ≤ 6 ∧ 6 < q.first + q.count)) := by decide

theorem witness_sampleLaw : SampleLaw (queued 1) := ⟨by decide, by decide, by decide⟩

theorem witness_shelfLaw : ShelfLaw (queued 1) := by
  intro v h
  cases h
  refine ⟨⟨by decide, by decide, ?_⟩, ⟨by decide, by decide⟩, by decide, ?_⟩
  · simp [volume, newVolume]
  · intro n l h
    match n with
    | 0 | 1 | 2 | 3 => cases h; decide
    | n + 4 => simp [volume, newVolume, newLeaves] at h

theorem witness_placeLaw : PlaceLaw (queued 1) := by
  intro v h
  cases h
  refine ⟨⟨⟨by decide, by decide⟩, ?_⟩, ?_, ?_, ?_⟩ <;> simp [volume, newVolume, queued, base, Csq.reset]

theorem witness_sumLaw : SumLaw (queued 1) := by
  intro v h
  cases h
  decide

theorem witness_countLaw : CountLaw (queued 1) := by
  refine ⟨by decide, ⟨by decide, by decide, by decide⟩, ⟨by decide, by decide, by decide⟩, by decide, by decide,
    by decide, by decide, by decide, by decide, by decide, by decide, by decide, by decide, by decide, ?_⟩
  intro v h
  cases h
  refine ⟨by decide, by decide, by decide, ?_, ?_⟩ <;>
    simp [volume, newVolume, newLeaves, LeafRecord.blank, SideRecord.blank, SideInWidth]

theorem witness_ceilingLaw : CeilingLaw (queued 1) := by
  intro v h
  cases h
  refine ⟨⟨⟨?_, ?_⟩, by decide, by decide⟩, ?_, ?_⟩ <;>
    simp [volume, newVolume, newLeaves, LeafRecord.blank, SideRecord.blank, queued, base, State.reset]

theorem witness_encoded : WellFormed (.setMark 2 1 1 3 260) = true ∧
    encodeRequest (.setMark 2 1 1 3 260) = some (0x0A, [2, 1, 1, 3, 0, 4, 1]) := by decide

theorem witness_hunting : State.reset.lif.receiver = .hunting ∧ State.reset.lif.gap = none := ⟨rfl, rfl⟩

theorem witness_runState : (base .armed).csq.runState ≠ .held := by decide

theorem witness_posting :
    (sideAt volume (.leaf 0 .verso)).isSome ∧ (sideAt volume (.leaf 1 .recto)).isSome ∧
    (SideRef.leaf 0 .verso) ≠ .leaf 1 .recto := by decide

theorem witness_allowed : mayFire volume (doseOf 27187500000 8333) (doseOf 51187500000 8333) = true := by decide

theorem witness_cut : cutTime volume 725000000 725000000 = some 6896551 ∧ 6896551 ≤ 6896551 ∧
    doseAt volume (leftSide volume) ≤ volume.sideCeiling ∧ volume.accumulator ≤ volume.volumeCeiling := by
  decide

theorem witness_noVolume : State.reset.volume = none := rfl

theorem witness_volume : (base .armed).volume = some volume := rfl

theorem witness_light :
    (∃ f, flashing.light = .flash f) ∧ (∃ p, previewed.light = .preview p) ∧
    (∀ f, (base .armed).light ≠ .flash f) ∧ ∀ p, (base .armed).light ≠ .preview p :=
  ⟨⟨_, rfl⟩, ⟨_, rfl⟩, nofun, nofun⟩

theorem witness_guard :
    guarded.grd.latch = true ∧ guarded.grd.readSeen = true ∧ guarded.lmn.curtain = some false ∧
    (base .armed).grd.latch = false ∧ (base .armed).grd.readSeen = false ∧
    tripsNow (turning .carry) = true := by decide

theorem witness_guarded_runLaw : RunLaw guarded := by
  refine ⟨?_, ?_, ?_, ?_, ?_, ?_⟩ <;>
    simp [PassPlaced, TurnAlone, PhasePlaced, LightPlaced, GuardPlaced, SetAsidePlaced, guarded, base,
      State.reset, Csq.reset, Spu.reset]

theorem witness_queue :
    (queued 0).rq.fifo = [] ∧ (∃ r rest, (queued 2).rq.fifo = r :: rest) ∧
    (queued 32).rq.fifo.length = (queued 32).settings.capacity ∧ (queued 32).rq.holding = none ∧
    ∃ r rest, (queued 32).rq.fifo = r :: rest := ⟨rfl, ⟨_, _, rfl⟩, rfl, rfl, ⟨_, _, rfl⟩⟩

theorem witness_end : (awaiting .endRecord).csq.runState = .running ∧ (awaiting .endRecord).rq.holding = none ∧
    (awaiting .endRecord).csq.awaiting = some .endRecord := ⟨rfl, rfl, rfl⟩

/-- A turn of each direction may begin at the first and at the last opening that has one. -/
theorem witness_turn :
    (awaiting (.turn .forward)).csq.awaiting = some (.turn .forward) ∧ underlying volume < volume.leafCount ∧
    underlying { volume with position := .opening 1 } < volume.leafCount ∧
    1 ≤ underlying { volume with position := .opening 1 } ∧
    1 ≤ underlying { volume with position := .opening 2 } := by decide

theorem witness_turnJob : (turning .lift).csq.turn = some turn := rfl

/-- A platen movement in RUNNING, driving or settling, which ends with no turn to end. -/
def platenMoving (p : Phase) : State :=
  { base .running with csq := { (base .running).csq with
      scope := some .platenMove, phase := p, phaseTimer := some ⟨600000, 600000⟩ } }

theorem witness_noTurn :
    (platenMoving .platenDown).csq.turn = none ∧
    endTurn (.fault .motionTimeout) true false (platenMoving .platenDown) = platenMoving .platenDown :=
  ⟨rfl, rfl⟩

theorem witness_movement :
    (turning .lift).csq.phaseTimer = some ⟨600000, 600000⟩ ∧ settling.csq.settleTimer = some ⟨400000, 400000⟩ ∧
    settling.csq.settleLimit = some ⟨3200000, 3200000⟩ ∧ (base .armed).csq.phaseTimer = none ∧
    (base .armed).csq.settleTimer = none ∧ (base .armed).csq.settleLimit = none := by decide

/-- A turn that a trip ends, with no pass and the holding slot empty. -/
theorem witness_tripped_turn : (turning .carry).csq.turn = some turn ∧ (turning .carry).spu.pass = none ∧
    (turning .carry).rq.holding = none := ⟨rfl, rfl, rfl⟩

/-- A trigger that falls before the end of its flash, and one that falls at its end. -/
theorem witness_triggerAtEnd :
    triggerAtEnd flashing = false ∧
    triggerAtEnd { passing (.flash (some ⟨8333, 5⟩)) with light := .flash flash6 } = true := by decide

theorem witness_trip : (turning .carry).settings.guardEnable = true ∧ (turning .carry).csq.runState = .running ∧
    (turning .carry).csq.phase ≠ .awaitHand ∧ (base .homing).csq.runState = .homing := by decide

/-- A pass over an open volume begins with a plan of one shot, or completes at once where a detour skips it. -/
theorem witness_pass :
    (passing .between).volume = some volume ∧ (passing .between).spu.active = some plan6 ∧
    (passing .between).spu.pass = some (pass6 .between) ∧
    plan6.shots.findIdx? (fun x => !(false && x.cameras == .left)) = some 0 ∧
    [{ shot6 with cameras := .left }].findIdx? (fun x => !(true && x.cameras == .left)) = none := by decide

theorem witness_shot : shotAt (pass6 .toBegin) = some shot6 := rfl

/-- A predicted shot fires with a delay, fires with none, and is withheld. -/
theorem witness_prediction :
    mayFire volume 226554 426546 = true ∧ 0 < min shot6.delay 8333 ∧ min (0 : Nat) 8333 = 0 ∧
    mayFire { volume with volumeCeiling := 1 } 226554 426546 = false := by decide

theorem witness_shotEvents :
    ((passing .toBegin).csq.runState = .running ∧ (passing .toBegin).rq.holding = none ∧
      ∃ p, (passing .toBegin).spu.pass = some p ∧ p.step = .toBegin) ∧
    (∃ p t, (passing (.readyWait ⟨9, 9⟩)).spu.pass = some p ∧ p.step = .readyWait t) ∧
    (∃ p t, (passing (.grace ⟨9, 9⟩)).spu.pass = some p ∧ p.step = .grace t) ∧
    (∃ p t, flashing.spu.pass = some p ∧ p.step = .flash (some t)) ∧
    ¬ ∃ p t, (passing .between).spu.pass = some p ∧ p.step = .readyWait t := by
  refine ⟨⟨rfl, rfl, _, rfl, rfl⟩, ⟨_, _, rfl, rfl⟩, ⟨_, _, rfl, rfl⟩, ⟨_, _, rfl, rfl⟩, ?_⟩
  rintro ⟨p, t, h, h'⟩
  cases h
  cases h'

/-- A TRIG pulse that ends before, with, or after the other camera's. -/
theorem witness_trig :
    let s (l r : Option Timer) : State :=
      { State.reset with spu := { Spu.reset with
          left := { Port.reset with trig := l }, right := { Port.reset with trig := r } } }
    trigTimer (s (some ⟨100, 3⟩) (some ⟨100, 5⟩)) = some ⟨100, 3⟩ ∧
    trigTimer (s (some ⟨100, 5⟩) (some ⟨100, 5⟩)) = some ⟨100, 5⟩ ∧
    trigTimer (s (some ⟨100, 5⟩) (some ⟨100, 4⟩)) = some ⟨100, 4⟩ ∧ trigTimer (s none none) = none := by decide

theorem witness_inFlight : SlotKept flashing ∧ flashing.spu.pass = some (pass6 (.flash (some ⟨100, 100⟩))) := by
  simp [SlotKept, flashing, passing, base, State.reset, Csq.reset, Rq.reset]

/-- A shot in flight in its grace, a pass between two shots, and no pass. -/
theorem witness_stopped :
    SlotKept (passing (.grace ⟨9, 9⟩)) ∧ shotAt (pass6 (.grace ⟨9, 9⟩)) = some shot6 ∧
    (passing (.grace ⟨9, 9⟩)).volume = some volume ∧ (passing .between).spu.pass = some (pass6 .between) ∧
    (∀ f, (pass6 .between).step ≠ .flash f) ∧ (∀ f, (pass6 .between).step ≠ .grace f) ∧
    (base .homing).spu.pass = none := by
  refine ⟨?_, rfl, rfl, rfl, nofun, nofun, rfl⟩
  simp [SlotKept, passing, base, State.reset, Csq.reset, Rq.reset]

theorem witness_timers :
    (State.reset.rq.staleTimer = none) ∧ (State.reset.cth.timeBase < 2 ^ 48) ∧ State.reset.sto.save = none ∧
    ({ State.reset with rq := { Rq.reset with staleTimer := some ⟨9, 9⟩ } } : State).rq.staleTimer = some ⟨9, 9⟩ ∧
    ({ State.reset with sto := { State.reset.sto with save := some ⟨factorySettings, ⟨9, 9⟩⟩ } } : State).sto.save =
      some ⟨factorySettings, ⟨9, 9⟩⟩ := by decide

theorem witness_assigned : assignedKind 0x48 = true ∧ assignedKind 0x0D = false := by decide

/-- A reply of a RESET request and one of another request, whose sending ends, and a reply with none waiting. -/
theorem witness_replied :
    (∃ t r rest, (replied true).lif.tx = some t ∧ t.reply = true ∧ (replied true).lif.outbox = r :: rest ∧
      r.resets = true) ∧
    (∃ t r rest, (replied false).lif.tx = some t ∧ t.reply = true ∧ (replied false).lif.outbox = r :: rest ∧
      r.resets = false) ∧
    ∃ t, ({ replied true with lif := { (replied true).lif with outbox := [] } } : State).lif.tx = some t ∧
      t.reply = true :=
  ⟨⟨_, _, _, rfl, rfl, rfl, rfl⟩, ⟨_, _, _, rfl, rfl, rfl, rfl⟩, ⟨_, rfl, rfl⟩⟩

/-- A reply that answers a slot and is being sent, a notice that is being sent, and an idle transmitter. -/
theorem witness_sending :
    let reply : Reply :=
      { tag := 1, kind := 0x82, result := .ok, content := [], fromSlot := true, resets := false }
    let s (r : Bool) : State := { State.reset with lif := { State.reset.lif with
      outbox := [reply], slots := [⟨1, 2, []⟩], handled := true, tx := some ⟨r, [], ⟨9, 9⟩⟩ } }
    ((s true).lif.tx.any (·.reply) = true ∧ (s true).lif.outbox = [reply]) ∧
    (s false).lif.tx.any (·.reply) = false ∧ quiet.lif.tx = none := by decide

theorem witness_gap :
    State.reset.lif.gap = none ∧
    (receiveByte 0xA5 State.reset).lif.gap = some ⟨20001, 20001⟩ := by decide

theorem witness_noTrip : tripsNow (base .armed) = false := by decide

end Sys2Proof.Tests
end

/-! Proofs of the family of the inserts, the foldouts and the detour stack: what the requests of a detour
do (chapter 2), and what a change of an input does beside its level. -/

namespace Sys2Proof.Machine.Detours

/-! ### The outcome of a request -/

/-- A request's outcome is the reply to its owner's answer (R145). -/
theorem respond_eq_answered (c : Instr) (s : State) (a : Answer) :
    respond c s a = .next (answered c a.result a.content s a.state) := rfl

/-- The outcome of an answer that hangs on a check. -/
theorem respond_ite (c : Instr) (s : State) (p : Prop) [Decidable p] (a b : Answer) :
    respond c s (if p then a else b) = if p then respond c s a else respond c s b :=
  apply_ite (respond c s) p a b

/-- Two checks that agree, followed by like outcomes, have the like outcome. -/
theorem check_congr {α : Type} {p q : Prop} [Decidable p] [Decidable q] {x y u v : α} (h : p ↔ q) (hx : x = u)
    (hy : ¬q → y = v) : (if p then x else y) = if q then u else v :=
  ite_congr (propext h) (fun _ => hx) hy

/-! ### The checks of the detour's requests (R24, R27, R28) -/

theorem not_armedOrHeld_iff (s : State) :
    (!armedOrHeld s) = true ↔ s.csq.runState ≠ .armed ∧ s.csq.runState ≠ .held := by
  simp [armedOrHeld]

theorem passSuspended_iff (s : State) :
    passSuspended s = true ↔ s.csq.runState = .held ∧
      (s.csq.resumePoint = some .readyCheck ∨ s.csq.resumePoint = some .afterShot) := by
  simp [passSuspended]

theorem level_eq_zero_iff (v : Volume) : level v = 0 ↔ v.stack = [] := List.length_eq_zero_iff

theorem halfOf_eq_none_iff (b : Byte) : halfOf b = none ↔ b ≠ 0 ∧ b ≠ 1 := by
  revert b; decide

theorem halfOf_getD (b : Byte) : (halfOf b).getD .left = if b = 1 then .right else .left := by
  revert b; decide

/-- The pool lacks room for 1 side or more exactly where its 512 records would be passed (R21, R24). -/
theorem poolFree_lt_iff (v : Volume) {n : Nat} (hn : 1 ≤ n) : poolFree v < n ↔ 512 < v.pool.length + n := by
  unfold poolFree; omega

/-! ### Boundaries of preview periods (R89) -/

/-- The state that a boundary's change is made on: the current period, if any, is closed and posted (R89). -/
def periodClosed (s : State) : State :=
  match s.light with
  | .preview p => closePeriod p s
  | _ => s

/-- A boundary hangs on its change alone where the change is made. -/
theorem atBoundary_congr {f g : State → State} {s : State} (h : f (periodClosed s) = g (periodClosed s)) :
    atBoundary f s = atBoundary g s := by
  unfold periodClosed at h
  unfold atBoundary boundary
  cases hl : s.light with
  | preview p => simp only [hl] at h; simp only [h]
  | dark => simp only [hl] at h; exact h
  | flash f => simp only [hl] at h; exact h

/-- What the next period leaves of the volume is what the change made of it (R89, R90). -/
theorem atBoundary_volume (f : State → State) (s : State) :
    (atBoundary f s).volume = (f (periodClosed s)).volume := by
  unfold atBoundary boundary periodClosed
  cases s.light with
  | preview p => dsimp only; split <;> simp
  | dark => rfl
  | flash f => rfl

/-- `w` stands in the detour as `v` does: the same frames, saved and current positions, and pool records in use. -/
structure SameDetour (v w : Volume) : Prop where
  frames : w.frames = v.frames
  stack : w.stack = v.stack
  pool : w.pool.length = v.pool.length
  position : w.position = v.position

/-- A posting of doses leaves the detour as it stands (R97). -/
theorem sameDetour_postDose (left right : SideRef) (dl dr : Nat) (v : Volume) :
    SameDetour v (postDose left right dl dr v) := by
  obtain ⟨leaves, pool, peak, -, hpool, -, e⟩ := postDose_eq left right dl dr v
  rw [e]
  exact ⟨rfl, rfl, hpool, rfl⟩

/-- The closing of a period leaves the detour as it stands (R89). -/
theorem periodClosed_volume {s : State} {v : Volume} (hv : s.volume = some v) :
    ∃ w, (periodClosed s).volume = some w ∧ SameDetour v w := by
  unfold periodClosed
  split
  next p _ => exact ⟨_, congrArg (Option.map _) hv, sameDetour_postDose ..⟩
  next => exact ⟨v, hv, rfl, rfl, rfl, rfl⟩

/-! ### The records of a detour (R29) -/

/-- The side found at is the verso or the recto that the half shows, with its label, and absent in an insert (R29). -/
theorem parentSideId_eq (v : Volume) (f : InsertFrame) :
    parentSideId v f =
      match f.parent with
      | .opening k .left => .leaf false k .verso (labelOf v k .verso)
      | .opening k .right => .leaf false (k + 1) .recto (labelOf v (k + 1) .recto)
      | .insert _ _ => .absent := by
  unfold parentSideId
  rcases f.parent with ⟨k, half⟩ | ⟨g, i⟩
  · cases half <;> rfl
  · rfl

/-- A DETOUR record handed over with a volume open (R29). -/
theorem handOverDetour_of_volume {s : State} {v : Volume} (hv : s.volume = some v) (enter deferred : Bool)
    (f : InsertFrame) :
    handOverDetour enter deferred f s =
      handOver 0 (.detour { enter := enter, frame := f, deferred := deferred, parentSide := parentSideId v f
                            shelfMark := v.shelfMark }) s := by
  simp only [handOverDetour, hv]

/-! ### An entry carried out (R20, R21, R25) -/

theorem newFrame_congr {v w : Volume} (h : SameDetour v w) (parent : Parent) (n : Nat) :
    newFrame w parent n = newFrame v parent n := by
  simp only [newFrame, h.frames, h.stack, h.pool]

theorem parentHere_congr {v w : Volume} (h : SameDetour v w) (half : Half) :
    parentHere w half = parentHere v half := by
  simp only [parentHere, h.position]

theorem halfSide_fst (k : Nat) (p : Prop) [Decidable p] :
    (halfSide k (if p then .right else .left)).1 = if p then k + 1 else k := by
  split <;> rfl

/-- HAS_INSERTS is set on the one leaf that carries the found-at side (R25). -/
theorem markInserts_eq (half : Half) (v : Volume) :
    markInserts half v = { v with
      leaves :=
        match v.position with
        | .opening k => v.leaves.modify (halfSide k half).1 fun l => { l with hasInserts := true }
        | .insert _ _ => v.leaves } := by
  cases v
  case mk position => cases position <;> rfl

/-- The volume as an entry at the current position leaves it (R20, R21, R25). -/
def entered (half : Half) (n : Nat) (v : Volume) : Volume :=
  pushFrame (parentHere v half) n (markInserts half v)

theorem entered_eq (half : Half) (n : Nat) (v : Volume) :
    entered half n v = { v with
      stack := v.position :: v.stack
      frames := v.frames ++ [newFrame v (parentHere v half) n]
      pool := v.pool ++ List.replicate n SideRecord.blank
      position := .insert (v.frames.length + 1) 0
      leaves :=
        match v.position with
        | .opening k => v.leaves.modify (halfSide k half).1 fun l => { l with hasInserts := true }
        | .insert _ _ => v.leaves } := by
  rw [entered, markInserts_eq]; rfl

/-- An entry enters the volume that stands, and its record names the side found at by the label it has there
(R25, R29). -/
theorem enterNow_of_volume {t : State} {w : Volume} (hw : t.volume = some w) (half : Half) (n : Nat) (v : Volume) :
    let frame := newFrame v (parentHere v half) n
    enterNow half n v t =
      handOver 0 (.detour { enter := true, frame := frame, deferred := false, parentSide := parentSideId w frame
                            shelfMark := w.shelfMark }) { t with volume := some (entered half n w) } := by
  intro frame
  have hvol : t.modVolume (fun w => pushFrame (parentHere w half) n (markInserts half w)) =
      { t with volume := some (entered half n w) } := by
    simp only [State.modVolume, hw, entered, Option.map_some]
  rw [enterNow, hvol, handOverDetour_of_volume rfl, entered_eq]
  rfl

/-- A taken entry replies with its frame's ordinal and first pool index and with side 0 of it as the new position,
one level down (R25). -/
theorem encEntry_enterNow {s : State} {v : Volume} (hv : s.volume = some v) (half : Half) (n : Nat) :
    encEntry (atBoundary (enterNow half n v) s) =
      num 1 (v.frames.length + 1) ++ num 2 v.pool.length ++ num 1 (v.stack.length + 1) ++
        num 2 (v.frames.length + 1) ++ num 1 0 := by
  obtain ⟨w, hw, same⟩ := periodClosed_volume hv
  have hvol : (atBoundary (enterNow half n v) s).volume = some (entered half n w) := by
    rw [atBoundary_volume, enterNow_of_volume hw]
    simp
  simp [encEntry, hvol, entered_eq, encPosition, level, encPositionAt, newFrame, same.stack, same.frames, same.pool]

/-- A move of the position replies with the place moved to, at the level that stands (R27). -/
theorem encHere_advanceTo {s : State} {v : Volume} (hv : s.volume = some v) (p : Position) :
    encHere (advanceTo p s) = encPositionAt v.stack.length p := by
  obtain ⟨w, hw, same⟩ := periodClosed_volume hv
  simp [encHere, advanceTo, atBoundary_volume, hw, encPosition, level, same.stack]

/-- Settles O28. Each request's checks are those of its owner one by one; what is left is that the change made at the
boundary is the owner's, on a volume where the closing of a preview period has moved doses alone. -/
theorem insertRequests : Obligations.InsertRequests := by
  unfold Obligations.InsertRequests
  refine ⟨?enterInsert, fun s v hv => ⟨?advance, ?leaveInsert⟩⟩
  case enterInsert =>
    intro s v half sides hv c n frame enter found change
    obtain ⟨w, hw, same⟩ := periodClosed_volume hv
    have henter : enter w = entered ((halfOf half).getD .left) n w := by
      rw [entered_eq, newFrame_congr same, parentHere_congr same, halfOf_getD]
      simp only [enter, frame, halfSide_fst, same.frames]
      rfl
    have hchange : change (periodClosed s) = enterNow ((halfOf half).getD .left) n v (periodClosed s) := by
      rw [enterNow_of_volume hw, ← henter, parentSideId_eq, halfOf_getD]
      simp only [change, hw]
      rfl
    show respond c s (enterInsertAnswer half sides s) = _
    unfold enterInsertAnswer
    simp only [hv, respond_ite, apply_ite Host.Outcome.next]
    refine check_congr (not_armedOrHeld_iff s) rfl fun _ => check_congr (passSuspended_iff s) rfl fun _ =>
      check_congr Iff.rfl rfl fun hn => check_congr ?_ rfl fun _ => check_congr Iff.rfl rfl fun _ =>
      check_congr ?_ rfl fun _ => ?_
    · rw [level_eq_zero_iff, halfOf_eq_none_iff]
    · rw [poolFree_lt_iff v (by omega)]
    · rw [encEntry_enterNow hv, ← atBoundary_congr hchange]
      by_cases hl : v.stack.length < 4
      · rw [if_pos hl, if_neg (Nat.not_le.mpr (show level v < 4 from hl))]; rfl
      · rw [if_neg hl, if_pos (show 4 ≤ level v from Nat.le_of_not_lt hl)]; rfl
  case advance =>
    show respond .advance s (advanceAnswer s) = _
    unfold advanceAnswer
    simp only [hv, respond_ite, apply_ite Host.Outcome.next, not_or]
    refine check_congr (not_armedOrHeld_iff s) rfl fun _ => check_congr (level_eq_zero_iff v) rfl fun _ =>
      check_congr (passSuspended_iff s) rfl fun _ => ?_
    cases hp : v.position with
    | opening k => simp only [advanced, hp]; rfl
    | insert f i =>
      cases hf : v.frames.find? (·.ordinal == f) with
      | none => simp only [advanced, frameOf, hp, hf]; rfl
      | some fr =>
        simp only [advanced, frameOf, hp, hf]
        by_cases hi : i + 1 < fr.sides
        · simp only [hi, if_true, respond_eq_answered, accept, encHere_advanceTo hv]; rfl
        · simp only [hi, if_false]; rfl
  case leaveInsert =>
    intro pop record again leave
    have hrecord (enter deferred : Bool) (f : InsertFrame) (t : State) :
        record enter deferred f t = handOverDetour enter deferred f t := by
      cases ht : t.volume with
      | none => simp only [record, handOverDetour, ht]
      | some w => rw [handOverDetour_of_volume ht, parentSideId_eq]; simp only [record, ht] <;> rfl
    have hagain (n : Nat) (t : State) : again n t = enterDeferred n t := by
      simp only [again, enterDeferred, hrecord]
      cases ht : t.volume with
      | none => rfl
      | some w => simp only [State.modVolume, ht]; rfl
    have hleave : leave = leaveNow v := by
      funext t
      simp only [leave, leaveNow, currentFrame, hrecord, hagain]
      cases v.position <;> cases v.deferred <;> rfl
    rw [hleave]
    show respond .leaveInsert s (leaveInsertAnswer s) = _
    unfold leaveInsertAnswer
    simp only [hv, respond_ite, apply_ite Host.Outcome.next, not_or]
    exact check_congr (not_armedOrHeld_iff s) rfl fun _ => check_congr (level_eq_zero_iff v) rfl fun _ =>
      check_congr (passSuspended_iff s) rfl fun _ => check_congr Iff.rfl rfl fun _ =>
      check_congr Iff.rfl rfl fun _ => rfl

/-! ### Frames and their sides (R20, R21, R34) -/

/-- The frame of an ordinal is the one at its place, since the frames are numbered in order (R20). -/
theorem frameOf_of_getElem? {v : Volume} (hv : FramesInOrder v) {i : Nat} {f : InsertFrame}
    (hf : v.frames[i]? = some f) : frameOf v (i + 1) = some f := by
  have ordinal (j : Nat) (g : InsertFrame) (hg : v.frames[j]? = some g) : g.ordinal = j + 1 := (hv.1 j g hg).1
  obtain ⟨hi, rfl⟩ := List.getElem?_eq_some_iff.mp hf
  refine List.find?_eq_some_iff_getElem.mpr ⟨?_, i, hi, rfl, fun j hj => ?_⟩
  · simpa using ordinal i _ hf
  · have := ordinal j _ (List.getElem?_eq_getElem (Nat.lt_trans hj hi))
    simp [this]; omega

/-- No frame has an ordinal outside 1 to the number of frames (R20). -/
theorem frameOf_eq_none {v : Volume} (hv : FramesInOrder v) {n : Nat}
    (hn : ¬(1 ≤ n ∧ n ≤ v.frames.length)) : frameOf v n = none := by
  refine List.find?_eq_none.mpr fun f hf => ?_
  obtain ⟨i, hi, rfl⟩ := List.getElem_of_mem hf
  have := (hv.1 i _ (List.getElem?_eq_getElem hi)).1
  simp [this]; omega

/-- The record of an insert side stands in the pool after those of its frame's earlier sides (R21). -/
theorem sideAt_insert {v : Volume} {n : Nat} {f : InsertFrame} (hf : frameOf v n = some f) (i : Nat) :
    sideAt v (.insert n i) = v.pool[f.firstPool + i]? := by
  simp [sideAt, poolIndex, hf]

/-- Settles O29. The frames are numbered in order (`DetourLaw`), so the ordinal asked for finds the frame at its
place. -/
theorem insertsAreQueried : Obligations.InsertsAreQueried := by
  unfold Obligations.InsertsAreQueried
  intro frame side s law c
  show respond c s (queryInsertAnswer frame side s) = _
  unfold queryInsertAnswer
  cases hv : s.volume with
  | none => rfl
  | some v =>
    obtain ⟨-, -, -, order, -⟩ := law v hv
    dsimp only
    by_cases h : 1 ≤ frame.toNat ∧ frame.toNat ≤ v.frames.length
    · rw [dif_pos h]
      have hget : v.frames[frame.toNat - 1]? = some v.frames[frame.toNat - 1] := List.getElem?_eq_getElem (by omega)
      generalize v.frames[frame.toNat - 1] = f at hget ⊢
      have hframe : frameOf v frame.toNat = some f := by
        rw [← Nat.sub_add_cancel h.1]; exact frameOf_of_getElem? order hget
      have hordinal : f.ordinal = frame.toNat := by
        rw [(order.1 _ _ hget).1, Nat.sub_add_cancel h.1]
      simp only [hframe, hordinal, sideAt_insert hframe]
      by_cases hs : side.toNat < f.sides
      · rw [if_neg (Nat.not_le.mpr hs), if_pos hs]
        cases v.pool[f.firstPool + side.toNat]? with
        | none => rfl
        | some r =>
          refine congrArg (fun content => Host.Outcome.next (taken c content s s)) ?_
          rw [← hordinal]
          show encInsert v f r = _
          rw [encInsert, parentSideId_eq]
          obtain ⟨capture, shots, retakes, dose, lastRecord⟩ := r
          rcases f.parent with ⟨k, _ | _⟩ | ⟨g, i⟩ <;> cases lastRecord <;> rfl
      · rw [if_pos (Nat.le_of_not_lt hs), if_neg hs]; rfl
    · rw [frameOf_eq_none order h, dif_neg h]; rfl

end Sys2Proof.Machine.Detours

namespace Sys2Proof.Machine.InputChanges

/-! ### Cameras, the curtain and the lamps (R75, R84, R112) -/

/-- A level is confirmed exactly where it is `some true`: an input with no level yet reads as not asserted (R36). -/
theorem getD_false_eq (o : Option Bool) : o.getD false = (o == some true) := by
  cases o with
  | none => rfl
  | some b => cases b <;> rfl

/-- Every camera of the narrowed set is ready: each is out of the set or confirmed ready (R110, R112). -/
theorem camerasReady_eq (p : Pass) (x : Shot) (s : State) :
    camerasReady p x s =
      ((p.detour || x.cameras == .right || s.lmn.readyLeft == some true) &&
        (x.cameras == .left || s.lmn.readyRight == some true)) := by
  simp [camerasReady, cameraReady, getD_false_eq, usesCamera, usesLeft, usesRight, bne]

/-- Only a change to ready is heard, by a ready wait whose every camera is then ready (R112). -/
theorem readyHeard_eq (b : Bool) (u : State) :
    (if b then readyChanged u else u) =
      match u.spu.pass with
      | none => u
      | some p =>
        match p.step, shotAt p with
        | .readyWait _, some x => if b && camerasReady p x u then predictShot x u else u
        | _, _ => u := by
  cases b with
  | true => simp only [readyChanged, Bool.true_and]; rfl
  | false =>
    simp only [Bool.false_and, Bool.false_eq_true, if_false]
    split
    · rfl
    · split <;> rfl

/-- An intrusion that does not trip clears read-seen under a set latch, and is else its level alone (R75). -/
theorem intruded_of_noTrip (s : State) (h : tripsNow s = false) :
    intruded s = { s with
      lmn := { s.lmn with curtain := some true }
      grd := { s.grd with readSeen := s.grd.readSeen && !s.grd.latch } } := by
  simp only [intruded, h, Bool.false_eq_true, if_false]
  split
  next hl =>
    have hseen : (s.grd.readSeen && !s.grd.latch) = false := by simp [hl]
    rw [hseen]; rfl
  next hl =>
    have hseen : (s.grd.readSeen && !s.grd.latch) = s.grd.readSeen := by simp [hl]
    rw [hseen]; rfl

/-- A lamp fault is a boundary of preview periods exactly where preview lights its channel (R84, R89). -/
theorem lampFailed_eq (n : Fin 8) (s : State) :
    let change := fun t => setCond .lampFault (setLamp n true t)
    lampFailed n s =
      if (match s.light with | .preview p => p.lit.get n | _ => false)
      then boundary (·.set n false) change s else change s := by
  intro change
  unfold lampFailed
  cases s.light <;> rfl

/-! ### Exposure-end pulses (R116) -/

/-- The event that a camera's frame is counted by (R137). -/
def frameEvent : Half → CounterEvent
  | .left => .framesLeft
  | .right => .framesRight

/-- A frame counted at its port, modulo 2^32, and reported (R116). -/
def countFrame (h : Half) (s : State) : State :=
  event (frameEvent h) (modPort h (fun q => { q with frames := wrapSucc 32 q.frames }) s)

/-- The shot in hand waits in its frame grace (R115). -/
def inGrace (s : State) : Bool :=
  s.spu.pass.any fun p =>
    match p.step with
    | .grace _ => true
    | _ => false

/-- What the shot in hand has of a camera once its frame has come, late in GRACE (R115, R116). -/
def noteFrame (h : Half) (s : State) (p : Pass) : Pass :=
  { p with shot := modCamera h (fun c =>
      { c with frame := some (wrapSucc 32 (portOf h s.spu).frames), late := inGrace s }) p.shot }

/-- A frame counted that ends its port's pending exposure and is the shot's (R116). -/
def takeFrame (h : Half) (s : State) : State :=
  modPass (noteFrame h s) (modPort h (fun q => { q with pending := false }) (countFrame h s))

/-- An exposure-end pulse is the frame of a pending exposure, which may complete the shot, or a stray frame (R116). -/
theorem exposureEnd_eq (h : Half) (s : State) :
    exposureEnd h s =
      if (portOf h s.spu).pending then
        if inGrace s && !anyPending (takeFrame h s) then completeShot (takeFrame h s) else takeFrame h s
      else event .strayFrames (setCond .strayFrame (countFrame h s)) := by
  unfold takeFrame countFrame noteFrame inGrace exposureEnd
  cases s.spu.pass <;> cases h <;> rfl

/-- The count of a frame changes its port's count alone of the ports and the pass. -/
theorem countFrame_spu (h : Half) (s : State) :
    (countFrame h s).spu = (modPort h (fun q => { q with frames := wrapSucc 32 q.frames }) s).spu :=
  event_spu _ _

/-- A frame taken leaves its port counted and no longer pending, and the shot with its frame. -/
theorem takeFrame_eq (h : Half) (s : State) :
    takeFrame h s =
      let port : Port :=
        { portOf h s.spu with frames := wrapSucc 32 (portOf h s.spu).frames, pending := false }
      let u := countFrame h s
      { u with spu :=
          match h with
          | .left => { u.spu with left := port, pass := s.spu.pass.map (noteFrame .left s) }
          | .right => { u.spu with right := port, pass := s.spu.pass.map (noteFrame .right s) } } := by
  cases h <;> simp [takeFrame, modPass, modPort, State.modSpu, portOf, countFrame_spu]

/-- Settles O57. Each input's change is what its owner does, part by part; a page-motion change is spelled out in the
statement as `pageMoved` defines it, for each half. -/
theorem inputsAreHeeded : Obligations.InputsAreHeeded := by
  unfold Obligations.InputsAreHeeded
  refine ⟨?inputs, ?exposureEnd⟩
  case inputs =>
    intro s running pressed advance
    refine ⟨?pedal, ?pageMotion, ?cameraReady, ?curtain, ?lampFault⟩
    case pedal =>
      have hadvance : pressed.volume.bind advanced = advance := rfl
      show Host.Outcome.next (finish s (pedalPressed pressed)) = _
      rw [pedalPressed, hadvance]
      rfl
    case pageMotion =>
      intro half b
      cases half <;> rfl
    case cameraReady =>
      intro camera b u ready heard
      have hu : s.modLmn (setReady camera b) = u := by cases camera <;> rfl
      have hheard : (if b then readyChanged u else u) = heard := by
        rw [readyHeard_eq]
        simp only [camerasReady_eq]
        rfl
      rw [← hheard, ← hu]; rfl
    case curtain =>
      intro h
      exact congrArg (fun t => Host.Outcome.next (finish s t)) (intruded_of_noTrip s h)
    case lampFault =>
      intro n change lit
      exact congrArg (fun t => Host.Outcome.next (finish s t)) (lampFailed_eq n s)
  case exposureEnd =>
    intro s half port count set counted grace got note closed noted
    have hport : port = portOf half s.spu := by cases half <;> rfl
    have hcounted : counted = countFrame half s := by cases half <;> rfl
    have hnoted : noted = takeFrame half s := by
      rw [takeFrame_eq, ← hcounted]
      cases half <;> rfl
    show Host.Outcome.next (finish s (exposureEnd half s)) = _
    rw [exposureEnd_eq, ← hport, ← hcounted, ← hnoted]
    rfl

end Sys2Proof.Machine.InputChanges

/-! Proofs of the family of illumination: light stays under the ceilings (chapter 6), the periods of preview
light and the shot's flash (chapters 5 and 7), and the timers that belong to none of the other families. -/

namespace Sys2Proof.Machine.Doses

/-! ### Channels -/

theorem toList_eq_map_get {α : Type} (v : Eight α) : v.toList = (List.finRange 8).map v.get := rfl

theorem get_zip {α β γ : Type} (f : α → β → γ) (v : Eight α) (w : Eight β) (n : Fin 8) :
    (v.zip f w).get n = f (v.get n) (w.get n) := by
  unfold Eight.get
  split <;> rfl

theorem get_zip3 {α β γ δ : Type} (f : α → β → γ → δ) (u : Eight α) (v : Eight β) (w : Eight γ) (n : Fin 8) :
    (u.zip3 f v w).get n = f (u.get n) (v.get n) (w.get n) := by
  unfold Eight.get
  split <;> rfl

/-! ### The least of some figures -/

/-- The least of a figure and a list is one of them, and none of them is less. -/
theorem foldl_min_spec (a : Nat) (l : List Nat) :
    l.foldl min a ∈ a :: l ∧ ∀ b ∈ a :: l, l.foldl min a ≤ b :=
  List.min?_eq_some_iff.mp List.min?_cons'

/-! ### On-time, rates and doses (R81, R92 to R94) -/

/-- The effective on-time is one of the shot's on-time and the flash limits of the lit set, and none is less (R81). -/
theorem effectiveOnTime_spec (lit : Eight Bool) (onTime : Nat) (s : State) :
    let limit (n : Fin 8) : Nat := (s.settings.calibration.get n).flashLimit * 1000
    let t := effectiveOnTime lit onTime s
    t ≤ onTime ∧ (∀ n, lit.get n = true → t ≤ limit n) ∧
      (t = onTime ∨ ∃ n, lit.get n = true ∧ t = limit n) := by
  intro limit t
  let figure (n : Fin 8) : Nat := if lit.get n = true then limit n else onTime
  have ht : t = ((List.finRange 8).map figure).foldl min onTime := by
    simp only [t, effectiveOnTime, toList_eq_map_get, funext (get_zip _ lit s.settings.calibration)]
    rfl
  obtain ⟨hmem, hle⟩ := foldl_min_spec onTime ((List.finRange 8).map figure)
  rw [← ht] at hmem hle
  refine ⟨hle onTime (List.mem_cons_self ..), fun n hn => ?_, ?_⟩
  · have := hle (figure n) (List.mem_cons_of_mem _ (List.mem_map_of_mem (List.mem_finRange n)))
    simpa [figure, hn] using this
  · rcases List.mem_cons.mp hmem with h | h
    · exact .inl h
    · obtain ⟨n, -, hn⟩ := List.mem_map.mp h
      by_cases hlit : lit.get n = true
      · exact .inr ⟨n, hlit, by simp [← hn, figure, hlit]⟩
      · exact .inl (by simp [← hn, figure, hlit])

theorem reaches_left (c : Coverage) : reaches .left c = decide (c ≠ .right) := by cases c <;> rfl

theorem reaches_right (c : Coverage) : reaches .right c = decide (c ≠ .left) := by cases c <;> rfl

/-- A side's rate is the sum of the weighted rates of the lit channels that reach it (R92, R93). -/
theorem sideRate_eq (h : Half) (lit : Eight Bool) (drives : Eight Nat) (s : State) :
    sideRate h lit drives s = ((List.finRange 8).map fun n =>
      let c := s.settings.calibration.get n
      if lit.get n = true ∧ reaches h c.coverage = true then c.illuminance * drives.get n * c.weight else 0).sum := by
  unfold sideRate
  rw [toList_eq_map_get, funext (get_zip3 _ lit s.settings.calibration drives)]
  congr 2
  funext n
  cases lit.get n <;> simp [weightedRate]

/-- A dose is the least whole figure not below the rate times the time over 10^9 (R94). -/
theorem doseOf_le_iff {q t d : Nat} : doseOf q t ≤ d ↔ q * t ≤ d * 1000000000 := by
  unfold doseOf; omega

theorem doseOf_mono (q : Nat) {t u : Nat} (h : t ≤ u) : doseOf q t ≤ doseOf q u :=
  doseOf_le_iff.mpr (Nat.le_trans (Nat.mul_le_mul_left q h) (doseOf_le_iff.mp (Nat.le_refl _)))

theorem doseOf_zero_rate (t : Nat) : doseOf 0 t = 0 := by simp [doseOf]

theorem doseOf_zero_time (q : Nat) : doseOf q 0 = 0 := by simp [doseOf]

/-- Two doses rounded up exceed the dose of both rates together by 1 at most (R100). -/
theorem doseOf_add_doseOf_le (ql qr t : Nat) : doseOf ql t + doseOf qr t ≤ doseOf (ql + qr) t + 1 := by
  simp only [doseOf, Nat.add_mul]; omega

/-! ### The prediction (R95) -/

/-- A shot may fire where each dose that is not 0 fits under its side's ceiling, and both under the volume's (R95). -/
theorem mayFire_iff (v : Volume) (pl pr : Nat) : mayFire v pl pr = true ↔
    (pl = 0 ∨ doseAt v (leftSide v) + pl ≤ v.sideCeiling) ∧
    (pr = 0 ∨ doseAt v (rightSide v) + pr ≤ v.sideCeiling) ∧
    v.accumulator + (pl + pr) ≤ v.volumeCeiling := by
  simp [mayFire, and_assoc, Nat.add_assoc]

/-- What a test allows for a dose, it allows for a smaller one that starts under the ceiling (R95, R97). -/
theorem fits_of_le {dose planned lit ceiling : Nat} (h : planned = 0 ∨ dose + planned ≤ ceiling) (hle : lit ≤ planned)
    (hdose : dose ≤ ceiling) : dose + lit ≤ ceiling := by omega

/-! ### The cut time (R100) -/

/-- The terms of the cut time (R100): of each lit side, and of the volume, which holds 1 back where both are lit. -/
def cutTerms (v : Volume) (ql qr : Nat) : List Nat :=
  (if 0 < ql then [(v.sideCeiling - doseAt v (leftSide v)) * 1000000000 / ql] else []) ++
  (if 0 < qr then [(v.sideCeiling - doseAt v (rightSide v)) * 1000000000 / qr] else []) ++
  (if 0 < ql ∧ 0 < qr then [(v.volumeCeiling - v.accumulator - 1) * 1000000000 / (ql + qr)]
   else if 0 < ql + qr then [(v.volumeCeiling - v.accumulator) * 1000000000 / (ql + qr)] else [])

/-- The least of three terms that may be absent, within a longest time, is a least over the list of those present. -/
theorem map_min_minTerm (a b c : Option Nat) (longest : Nat) :
    (minTerm a (minTerm b c)).map (min longest) =
      if a.toList ++ b.toList ++ c.toList = [] then none
      else some ((a.toList ++ b.toList ++ c.toList).foldl min longest) := by
  cases a <;> cases b <;> cases c <;> simp [minTerm, Nat.min_assoc]

theorem toList_sideTerm (left q : Nat) :
    (sideTerm left q).toList = if 0 < q then [left * 1000000000 / q] else [] := by
  unfold sideTerm
  rcases Nat.eq_zero_or_pos q with rfl | hq
  · rfl
  · rw [if_neg (Nat.ne_of_gt hq), if_pos hq]; rfl

theorem toList_volumeTerm (left ql qr : Nat) :
    (volumeTerm left ql qr).toList =
      if 0 < ql ∧ 0 < qr then [(left - 1) * 1000000000 / (ql + qr)]
      else if 0 < ql + qr then [left * 1000000000 / (ql + qr)] else [] := by
  unfold volumeTerm
  split
  next h => rw [if_neg (by omega), if_neg (by omega)]; rfl
  next h =>
    split
    next h' => rw [if_neg (by omega), if_pos (by omega)]; rfl
    next h' => rw [if_pos (by omega)]; rfl

/-- The cut time is the least of its terms, within 48 bits; with no side lit there is none (R100). -/
theorem cutTime_eq (v : Volume) (ql qr : Nat) :
    cutTime v ql qr =
      if cutTerms v ql qr = [] then none else some ((cutTerms v ql qr).foldl min (2 ^ 48 - 1)) := by
  rw [cutTime, map_min_minTerm, toList_sideTerm, toList_sideTerm, toList_volumeTerm]
  rfl

/-- A time within the cut time is within each of its terms (R100). -/
theorem le_of_mem_cutTerms {v : Volume} {ql qr lit : Nat} (hcut : ∀ cut, cutTime v ql qr = some cut → lit ≤ cut) :
    ∀ t ∈ cutTerms v ql qr, lit ≤ t := by
  intro t ht
  have h := hcut _ ((cutTime_eq v ql qr).trans (if_neg (List.ne_nil_of_mem ht)))
  exact Nat.le_trans h ((foldl_min_spec _ _).2 t (List.mem_cons_of_mem _ ht))

/-- The dose of a rate over no longer than its term fits what is left (R94, R100). -/
theorem doseOf_le_of_term {q lit left : Nat} (h : 0 < q → lit ≤ left * 1000000000 / q) : doseOf q lit ≤ left := by
  rcases Nat.eq_zero_or_pos q with rfl | hq
  · simp [doseOf_zero_rate]
  · rw [doseOf_le_iff, Nat.mul_comm]
    exact (Nat.le_div_iff_mul_le hq).mp (h hq)

/-- The two doses over no longer than the volume's term fit what is left of the volume: the 1 held back with both
sides lit is what rounding each dose up can take (R94, R100). -/
theorem doseOf_add_le_of_term {ql qr lit left : Nat}
    (hboth : 0 < ql → 0 < qr → lit ≤ (left - 1) * 1000000000 / (ql + qr))
    (hone : ¬(0 < ql ∧ 0 < qr) → 0 < ql + qr → lit ≤ left * 1000000000 / (ql + qr)) :
    doseOf ql lit + doseOf qr lit ≤ left := by
  by_cases h : 0 < ql ∧ 0 < qr
  · have hterm := hboth h.1 h.2
    have hfit : doseOf (ql + qr) lit ≤ left - 1 := doseOf_le_of_term fun _ => hterm
    rcases Nat.eq_zero_or_pos left with rfl | hleft
    · rw [Nat.zero_sub, Nat.zero_mul, Nat.zero_div] at hterm
      have hlit : lit = 0 := Nat.le_zero.mp hterm
      simp only [hlit, doseOf_zero_time, Nat.add_zero, Nat.le_refl]
    · calc doseOf ql lit + doseOf qr lit
        _ ≤ doseOf (ql + qr) lit + 1 := doseOf_add_doseOf_le ql qr lit
        _ ≤ left - 1 + 1 := Nat.succ_le_succ hfit
        _ = left := Nat.sub_add_cancel hleft
  · have hfit : doseOf (ql + qr) lit ≤ left := doseOf_le_of_term (hone h)
    have hsum : doseOf ql lit + doseOf qr lit = doseOf (ql + qr) lit := by
      rcases Nat.eq_zero_or_pos ql with rfl | hl
      · rw [doseOf_zero_rate, Nat.zero_add, Nat.zero_add]
      · have hr : qr = 0 := Nat.eq_zero_of_not_pos fun hr => h ⟨hl, hr⟩
        rw [hr, doseOf_zero_rate, Nat.add_zero, Nat.add_zero]
    rw [hsum]
    exact hfit

/-- Settles O23. A dose grows with its time, so what the prediction allows for the planned time holds for a shorter
one; and a time within the cut time is within each term, whose dose fits what is left. -/
theorem lightStaysUnderTheCeilings : Obligations.LightStaysUnderTheCeilings := by
  unfold Obligations.LightStaysUnderTheCeilings
  refine ⟨?allowed, ?cut, ?rates, ?dose, fun v ql qr => ⟨mayFire_iff v, cutTime_eq v ql qr⟩⟩
  case allowed =>
    intro v ql qr planned lit hfire hlit
    obtain ⟨hleft, hright, hvolume⟩ := (mayFire_iff v _ _).mp hfire
    have hl := doseOf_mono ql hlit
    have hr := doseOf_mono qr hlit
    exact ⟨fits_of_le hleft hl, fits_of_le hright hr, by omega⟩
  case cut =>
    intro v ql qr lit hleft hright hvolume hcut
    have hterm := le_of_mem_cutTerms hcut
    have hl : doseOf ql lit ≤ v.sideCeiling - doseAt v (leftSide v) :=
      doseOf_le_of_term fun hq => hterm _ (by simp [cutTerms, hq])
    have hr : doseOf qr lit ≤ v.sideCeiling - doseAt v (rightSide v) :=
      doseOf_le_of_term fun hq => hterm _ (by simp [cutTerms, hq])
    have hsum : doseOf ql lit + doseOf qr lit ≤ v.volumeCeiling - v.accumulator :=
      doseOf_add_le_of_term (fun hql hqr => hterm _ (by simp [cutTerms, hql, hqr]))
        (fun hboth hone => hterm _ (by simp only [cutTerms, if_neg hboth, if_pos hone]; simp))
    omega
  case rates =>
    intro lit drives onTime s channel rate t
    refine ⟨effectiveOnTime_spec lit onTime s, ?_, ?_⟩
    · simp only [sideRate_eq, reaches_left, decide_eq_true_iff]; rfl
    · simp only [sideRate_eq, reaches_right, decide_eq_true_iff]; rfl
  case dose => exact fun q t => ⟨doseOf_le_iff.mp (Nat.le_refl _), fun d => doseOf_le_iff.mpr⟩

end Sys2Proof.Machine.Doses

namespace Sys2Proof.Machine.PreviewPeriods

open Detours (respond_eq_answered respond_ite)
open InputChanges (getD_false_eq)

/-! ### Lit sets (R81, R85) -/

theorem zip_map_right {α β γ δ : Type} (f : α → γ → δ) (g : β → γ) (v : Eight α) (w : Eight β) :
    v.zip f (w.map g) = v.zip (fun a b => f a (g b)) w := rfl

theorem nonempty_eq_false_iff (v : Eight Bool) : nonempty v = false ↔ v = Eight.fill false := by
  obtain ⟨c0, c1, c2, c3, c4, c5, c6, c7⟩ := v
  simp only [nonempty, Eight.any, Eight.fill, id, Bool.or_eq_false_iff, Eight.mk.injEq, and_assoc]

/-- A set has a channel in it exactly where it is not the empty set. -/
theorem nonempty_iff (v : Eight Bool) : nonempty v = true ↔ v ≠ Eight.fill false := by
  rw [ne_eq, ← nonempty_eq_false_iff, Bool.not_eq_false]

/-- The channels that would light at the level of the detour that stands (R30, R81). -/
def wouldSet (drives : Eight Nat) (s : State) : Eight Bool :=
  s.settings.calibration.zip (wouldLight (decide (1 ≤ levelNow s))) drives

theorem litSet_eq (drives : Eight Nat) (s : State) :
    litSet drives s = (wouldSet drives s).zip (fun b f => b && !(f == some true)) s.lmn.lamps := by
  simp only [litSet, wouldSet, lampFaulted, zip_map_right, getD_false_eq]

theorem faultedSet_eq (drives : Eight Nat) (s : State) :
    faultedSet drives s = (wouldSet drives s).zip (fun b f => b && f == some true) s.lmn.lamps := by
  simp only [faultedSet, wouldSet, lampFaulted, zip_map_right, getD_false_eq]

theorem litSet_congr {s t : State} (drives : Eight Nat) (hset : t.settings = s.settings) (hlmn : t.lmn = s.lmn)
    (hlevel : levelNow t = levelNow s) : litSet drives t = litSet drives s := by
  simp only [litSet, lampFaulted, hset, hlmn, hlevel]

theorem faultedSet_congr {s t : State} (drives : Eight Nat) (hset : t.settings = s.settings)
    (hlmn : t.lmn = s.lmn) (hlevel : levelNow t = levelNow s) : faultedSet drives t = faultedSet drives s := by
  simp only [faultedSet, lampFaulted, hset, hlmn, hlevel]

theorem sideRate_congr {s t : State} (h : Half) (lit : Eight Bool) (drives : Eight Nat)
    (hset : t.settings = s.settings) : sideRate h lit drives t = sideRate h lit drives s := by
  simp only [sideRate, hset]

/-! ### The start of a period (R86, R87) -/

/-- A period is timed by its cut where that is within the limit left, else by the limit left (R86). -/
theorem periodTimer_eq (cut : Option Nat) (limitLeft : Nat) :
    let short := cut.any fun c => decide (c ≤ limitLeft)
    periodTimer cut limitLeft = (startTimer (if short then cut.getD 0 else limitLeft), short) := by
  cases cut with
  | none => rfl
  | some c => by_cases h : c ≤ limitLeft <;> simp [periodTimer, h]

/-- The preview that a period of a lit set begins (R86). -/
def periodOf (lit : Eight Bool) (drives : Eight Nat) (limit limitLeft : Nat) (cut : Option Nat) : Preview :=
  let short := cut.any fun c => decide (c ≤ limitLeft)
  { lit := lit, drives := drives, limit := limit, limitLeft := limitLeft,
    timer := startTimer (if short then cut.getD 0 else limitLeft), cut := cut, cutExpiry := short }

theorem startPeriod_eq (lit : Eight Bool) (drives : Eight Nat) (limit limitLeft : Nat) (s : State) :
    startPeriod lit drives limit limitLeft s =
      if cutNow lit drives s = some 0 then setCond .doseCeiling (leavePreview s)
      else s.setLight (.preview (periodOf lit drives limit limitLeft (cutNow lit drives s))) := by
  simp only [startPeriod, periodTimer_eq]; rfl

/-- Preview stands after the start of a period exactly where its cut is not 0 (R87). -/
theorem previewing_startPeriod (lit : Eight Bool) (drives : Eight Nat) (limit limitLeft : Nat) (s : State) :
    previewing (startPeriod lit drives limit limitLeft s) = decide (cutNow lit drives s ≠ some 0) := by
  rw [startPeriod_eq]
  by_cases h : cutNow lit drives s = some 0
  · simp [h, previewing, leavePreview]
  · simp [h, previewing]

/-! ### Boundaries and ends (R88 to R90) -/

theorem boundary_of_preview {s : State} {p : Preview} (hp : s.light = .preview p)
    (keep : Eight Bool → Eight Bool) (change : State → State) :
    let u := change (closePeriod p s)
    let lit := nextLit (keep p.lit) u
    boundary keep change s =
      if lit = Eight.fill false then leavePreview u
      else if cutNow lit p.drives u = some 0 then setCond .doseCeiling (leavePreview u)
      else u.setLight (.preview (periodOf lit p.drives p.limit p.limitLeft (cutNow lit p.drives u))) := by
  intro u lit
  simp only [boundary, hp, ← startPeriod_eq, nonempty_iff, ite_not]
  rfl

theorem boundary_of_not_preview {s : State} (hs : ∀ p, s.light ≠ .preview p) (keep : Eight Bool → Eight Bool)
    (change : State → State) : boundary keep change s = change s := by
  unfold boundary
  split
  next p hp => exact absurd hp (hs p)
  next => rfl

theorem endPreview_of_preview {s : State} {p : Preview} (hp : s.light = .preview p) :
    endPreview s = leavePreview (closePeriod p s) := by
  simp only [endPreview, hp]

theorem endPreview_of_not_preview {s : State} (hs : ∀ p, s.light ≠ .preview p) : endPreview s = s := by
  unfold endPreview
  split
  next p hp => exact absurd hp (hs p)
  next => rfl

/-! ### PREVIEW ON (R85 to R87) -/

theorem drivesTaken_eq (d : Eight (BitVec 16)) :
    drivesTaken d = d.map fun x => if 1000 < x.toNat then 1000 else x.toNat := by
  refine congrArg d.map (funext fun x => ?_)
  split <;> omega

/-- The posting of a period leaves the level as it stands (R97). -/
theorem levelNow_closePeriod (p : Preview) (s : State) : levelNow (closePeriod p s) = levelNow s := by
  cases hv : s.volume with
  | none => simp [levelNow, closePeriod, postLight, State.modVolume, hv]
  | some v => simp [levelNow, closePeriod, postLight, State.modVolume, hv, level, postDose_detour]

/-- What the lit set and the rates rest on is the same after the preview found is closed. -/
theorem closeFound_frame (s : State) :
    (closeFound s).settings = s.settings ∧ (closeFound s).lmn = s.lmn ∧
      levelNow (closeFound s) = levelNow s := by
  unfold closeFound
  split
  next p _ => exact ⟨rfl, rfl, levelNow_closePeriod p s⟩
  next => exact ⟨rfl, rfl, rfl⟩

/-- A dropped channel sets LAMP_FAULT and leaves what the lit set rests on (R85). -/
theorem dropFaulted_frame (drives : Eight Nat) (s : State) :
    (dropFaulted drives s).settings = s.settings ∧ (dropFaulted drives s).lmn = s.lmn ∧
      levelNow (dropFaulted drives s) = levelNow s := by
  unfold dropFaulted levelNow
  split <;> simp

theorem enterPreview_settings (wasOn : Bool) (s : State) : (enterPreview wasOn s).settings = s.settings := by
  unfold enterPreview
  split <;> simp

/-- The preview found closed and LAMP_FAULT set for a channel dropped: what a taken PREVIEW ON starts from (R85). -/
def prepared (drives : Eight Nat) (s : State) : State :=
  if nonempty (faultedSet drives s) then setCond .lampFault (closeFound s) else closeFound s

theorem dropFaulted_closeFound (drives : Eight Nat) (s : State) :
    dropFaulted drives (closeFound s) = prepared drives s := by
  obtain ⟨hset, hlmn, hlevel⟩ := closeFound_frame s
  rw [dropFaulted, faultedSet_congr drives hset hlmn hlevel]; rfl

theorem prepared_frame (drives : Eight Nat) (s : State) :
    (prepared drives s).settings = s.settings ∧ litSet drives (prepared drives s) = litSet drives s := by
  obtain ⟨hset, hlmn, hlevel⟩ := closeFound_frame s
  obtain ⟨hset', hlmn', hlevel'⟩ := dropFaulted_frame drives (closeFound s)
  rw [← dropFaulted_closeFound]
  exact ⟨hset'.trans hset, litSet_congr drives (hset'.trans hset) (hlmn'.trans hlmn) (hlevel'.trans hlevel)⟩

/-- A taken PREVIEW ON: nothing lit, a cut of 0, or a first period begun (R85 to R87). -/
theorem previewOnAnswer_eq (drives : Eight Nat) (s : State) :
    let lit := litSet drives s
    let told := prepared drives s
    let entered := enterPreview (previewing s) told
    let limit := s.settings.previewLimit * 1000000
    let cut := cutNow lit drives entered
    let reply (isOn : Bool) (k : Option Nat) : List Byte :=
      encDrives drives ++ set8 lit ++ bit isOn ++ item 6 (k.map (num 6))
    previewOnAnswer drives s =
      if lit = Eight.fill false then accept (reply false none) (if previewing s then leavePreview told else told)
      else if cut = some 0 then accept (reply false (some 0)) (setCond .doseCeiling (leavePreview entered))
      else accept (reply true cut) (entered.setLight (.preview (periodOf lit drives limit limit cut))) := by
  intro lit told entered limit cut reply
  obtain ⟨-, hlit⟩ := prepared_frame drives s
  unfold previewOnAnswer
  simp only [dropFaulted_closeFound, hlit, previewing_startPeriod, nonempty_iff, ite_not]
  refine ite_congr rfl (fun _ => rfl) fun _ => ?_
  show accept (reply (decide (cut ≠ some 0)) cut) (startPeriod lit drives _ _ entered) = _
  rw [startPeriod_eq]
  by_cases hcut : cut = some 0
  · rw [if_pos hcut, if_pos hcut, hcut]; rfl
  · rw [if_neg hcut, if_neg hcut, decide_eq_true hcut]

/-- PREVIEW ON is refused by the run state before anything else (R85). -/
theorem execPreviewOn_eq (d : Eight (BitVec 16)) (s : State) :
    execPreviewOn d s = respond (.previewOn d) s
      (if s.csq.runState = .guarded then refuse .guard s
      else if s.csq.runState = .running ∨ s.csq.runState = .homing then refuse .busy s
      else if s.csq.runState = .faulted then refuse .state s
      else previewOnAnswer (drivesTaken d) s) := by
  unfold execPreviewOn
  cases s.csq.runState <;> rfl

/-- Settles O38. A boundary, a first period and an end of preview are each what its owner does, with the case split
of the statement: nothing lit, a cut of 0, or a period timed by the smaller of cut and limit. -/
theorem previewLight : Obligations.PreviewLight := by
  unfold Obligations.PreviewLight
  refine ⟨⟨fun _ _ => rfl, fun keep change s hs => boundary_of_not_preview hs keep change, ?boundary⟩, ?requests⟩
  case boundary =>
    intro keep change s p hp spent u lit off cut
    exact boundary_of_preview hp keep change
  case requests =>
    intro s posted
    refine ⟨?previewOn, fun p hp => ?_, fun hs => ?_, fun p hp => endPreview_of_preview hp,
      endPreview_of_not_preview⟩
    case previewOn =>
      intro d c drives would lit dropped wasOn closed told entered left limit cut short figure on reply
      have hdrives : drivesTaken d = drives := drivesTaken_eq d
      have hlit : litSet drives s = lit := litSet_eq drives s
      have hclosed : closeFound s = closed := rfl
      have htold : prepared drives s = told := by
        rw [prepared, faultedSet_eq, hclosed]; rfl
      have hcut : cutNow lit drives entered = cut := by
        have hset : entered.settings = s.settings := by
          obtain ⟨hset, -⟩ := prepared_frame drives s
          rw [← hset, htold]
          exact enterPreview_settings wasOn told
        simp only [cutNow, sideRate_congr _ lit drives hset]
        rfl
      have hreply (isOn : Bool) (k : Option Nat) :
          encDrives drives ++ set8 lit ++ bit isOn ++ item 6 (k.map (num 6)) = reply isOn k := by
        cases k <;> rfl
      have hentered : enterPreview (previewing s) told = entered := rfl
      show execPreviewOn d s = _
      rw [execPreviewOn_eq, hdrives, previewOnAnswer_eq, hlit, htold, hentered, hcut]
      simp only [hreply, respond_ite, apply_ite Host.Outcome.next]
      rfl
    · show respond .previewOff s (accept [] (endPreview s)) = _
      rw [endPreview_of_preview hp]; rfl
    · show respond .previewOff s (accept [] (endPreview s)) = _
      rw [endPreview_of_not_preview hs]; rfl

end Sys2Proof.Machine.PreviewPeriods

namespace Sys2Proof.Machine.Flashes

open Doses (mayFire_iff)
open PreviewPeriods (litSet_eq faultedSet_eq sideRate_congr)

/-! ### The pass, the volume and the trigger -/

theorem modPass_of_pass {s : State} {p : Pass} (hp : s.spu.pass = some p) (f : Pass → Pass) :
    modPass f s = { s with spu := { s.spu with pass := some (f p) } } := by
  simp only [modPass, State.modSpu, hp, Option.map_some]

theorem modVolume_of_volume {s : State} {v : Volume} (hv : s.volume = some v) (f : Volume → Volume) :
    s.modVolume f = { s with volume := some (f v) } := by
  simp only [State.modVolume, hv, Option.map_some]

/-- A trigger changes the pass and the ports alone (R114). -/
theorem trigger_eq_modSpu (s : State) : ∃ u, trigger s = { s with spu := u } := by
  unfold trigger
  split
  · exact ⟨s.spu, rfl⟩
  · split
    · exact ⟨s.spu, rfl⟩
    · dsimp only
      split <;> split <;> exact ⟨_, rfl⟩

/-! ### The prediction of a shot (R81, R84, R95, R96, R113) -/

/-- The shot in hand with its lit set formed, and LAMP_FAULT set for a channel its lamp drops (R81, R84). -/
def setUp (x : Shot) (p : Pass) (s : State) : State :=
  let dropped := nonempty (faultedSet x.drives s)
  let t := if dropped then setCond .lampFault s else s
  { t with spu := { t.spu with
      pass := some { p with shot := { p.shot with lit := litSet x.drives s, lampFault := dropped } } } }

theorem setUp_volume (x : Shot) (p : Pass) (s : State) : (setUp x p s).volume = s.volume := by
  unfold setUp
  dsimp only
  split <;> simp

/-- A shot set up fires or is withheld by the two tests of its predicted doses (R95). -/
theorem predictShot_eq {s : State} {v : Volume} {p : Pass} (x : Shot) (hv : s.volume = some v)
    (hp : s.spu.pass = some p) :
    let lit := litSet x.drives s
    let onTime := effectiveOnTime lit x.onTime s
    let pl := doseOf (sideRate .left lit x.drives s) onTime
    let pr := doseOf (sideRate .right lit x.drives s) onTime
    predictShot x s =
      if mayFire v pl pr then fireShot x lit onTime (setUp x p s) else withholdShot pl pr (setUp x p s) := by
  have hpass : (if nonempty (faultedSet x.drives s) then setCond .lampFault s else s).spu.pass = some p := by
    split <;> simpa using hp
  simp only [predictShot, hv, modPass_of_pass hpass]
  rfl

/-- A shot that fires is counted and lights its lit set; its delay runs, or it triggers at once (R82, R113). -/
theorem fireShot_eq {s : State} {v : Volume} {p : Pass} (x : Shot) (lit : Eight Bool) (onTime : Nat)
    (hv : s.volume = some v) (hp : s.spu.pass = some p) :
    let lighted : State :=
      { event .shotsFired { s with volume := some { v with fired := satSucc (2 ^ 32 - 1) v.fired } }
        with light := .flash { lit := lit, drives := x.drives, timer := startTimer onTime } }
    let delay := min x.delay onTime
    fireShot x lit onTime s =
      if delay = 0 then trigger lighted
      else { lighted with spu := { lighted.spu with
        pass := some { p with step := .flash (some (startTimer delay)) } } } := by
  intro lighted delay
  have hlighted : lighted.spu.pass = some p := by simpa [lighted] using hp
  rw [← modPass_of_pass hlighted fun q => { q with step := .flash (some (startTimer delay)) }]
  simp only [fireShot, modVolume_of_volume hv]
  rfl

/-- A shot withheld sets DOSE_WITHHELD, is counted, and completes with its predicted doses (R96). -/
theorem withholdShot_eq {s : State} {v : Volume} {p : Pass} (pl pr : Nat) (hv : s.volume = some v)
    (hp : s.spu.pass = some p) :
    let counted := event .shotsWithheld (setCond .doseWithheld
      { s with volume := some { v with withheld := satSucc (2 ^ 32 - 1) v.withheld } })
    withholdShot pl pr s = completeShot { counted with spu := { counted.spu with
      pass := some { p with shot := { p.shot with predicted := some (pl, pr) } } } } := by
  intro counted
  have hcounted : counted.spu.pass = some p := by simpa [counted] using hp
  rw [← modPass_of_pass hcounted fun q => { q with shot := { q.shot with predicted := some (pl, pr) } }]
  simp only [withholdShot, modVolume_of_volume hv]
  rfl

/-- Settles O52. The shot set up is the statement's, its two tests are the prediction's, and either outcome is its
owner's. -/
theorem shotsArePredicted : Obligations.ShotsArePredicted := by
  unfold Obligations.ShotsArePredicted
  intro s v p x hv hp _ would lit dropped onTime pl pr shot faulted prep fires lighted delay
  have hlit : litSet x.drives s = lit := litSet_eq x.drives s
  have hdropped : faultedSet x.drives s = dropped := faultedSet_eq x.drives s
  have hprep : setUp x p s = prep := by
    simp only [setUp, hlit, hdropped]; rfl
  have hvolume : prep.volume = some v := by rw [← hprep, setUp_volume, hv]
  have hpass : prep.spu.pass = some { p with shot := shot } := rfl
  have hpredict : predictShot x s =
      if mayFire v pl pr then fireShot x lit onTime prep else withholdShot pl pr prep := by
    rw [predictShot_eq x hv hp, hlit, hprep]
  have htests : mayFire v pl pr = true ↔ fires := mayFire_iff v pl pr
  have hfire := fireShot_eq x lit onTime hvolume hpass
  refine ⟨fun h hdelay => ?_, fun h hdelay => ?_, fun h => ?_⟩
  · rw [hpredict, if_pos (htests.mpr h), hfire, if_neg (Nat.ne_of_gt hdelay)]; rfl
  · rw [hpredict, if_pos (htests.mpr h), hfire, if_pos hdelay]; rfl
  · rw [hpredict, if_neg (mt htests.mp h), withholdShot_eq pl pr hvolume hpass]; rfl

/-! ### The frame grace (R115) -/

/-- Each camera still pending is closed with no frame (R115). -/
def missed (s : State) : State :=
  let l := s.spu.left.pending
  let r := s.spu.right.pending
  { s with spu := { s.spu with
    left := { s.spu.left with pending := false }
    right := { s.spu.right with pending := false }
    pass := s.spu.pass.map fun p => { p with shot := { p.shot with
      left := { p.shot.left with noFrame := p.shot.left.noFrame || l }
      right := { p.shot.right with noFrame := p.shot.right.noFrame || r } } } } }

theorem modPort_of_not_pending {h : Half} {s : State} (hs : (portOf h s.spu).pending = false) :
    modPort h (fun q => { q with pending := false }) s = s := by
  have heta : { portOf h s.spu with pending := false } = portOf h s.spu := by rw [← hs]
  cases h with
  | left => exact congrArg (fun q => { s with spu := { s.spu with left := q } }) heta
  | right => exact congrArg (fun q => { s with spu := { s.spu with right := q } }) heta

theorem modCamera_id (h : Half) (x : ShotInHand) : modCamera h (fun c => c) x = x := by cases h <;> rfl

/-- A port's pending exposure closed with no frame, and nothing where none is pending (R115). -/
theorem ite_noFrame (h : Half) (b : Bool) (s : State) (hb : (portOf h s.spu).pending = b) :
    (if b then noFrame h s else s) =
      modPass (fun p => { p with shot := modCamera h (fun c => { c with noFrame := c.noFrame || b }) p.shot })
        (modPort h (fun q => { q with pending := false }) s) := by
  cases b with
  | true => simp only [noFrame, Bool.or_true]; rfl
  | false => simp [modPort_of_not_pending hb, modCamera_id, modPass, State.modSpu]

theorem graceExpired_eq (s : State) : graceExpired s = completeShot (missed s) := by
  have hleft := ite_noFrame .left s.spu.left.pending s rfl
  have hright := ite_noFrame .right s.spu.right.pending
    (if s.spu.left.pending then noFrame .left s else s) (by split <;> rfl)
  unfold graceExpired
  dsimp only
  rw [hright, hleft]
  simp only [missed, modPass, modPort, modCamera, State.modSpu, Option.map_map]
  rfl

/-! ### The end of a flash (R82, R83, R97, R114, R115) -/

/-- The trigger of the pass's shot has still to fall (R114). -/
def toFall (p : Pass) : Bool :=
  match p.step with
  | .flash (some _) => true
  | _ => false

theorem triggerDue_eq (s : State) : triggerDue s = s.spu.pass.any toFall := by
  unfold triggerDue
  cases s.spu.pass <;> rfl

theorem toFall_elapseStep (n : Nat) (p : Pass) : toFall { p with step := elapseStep n p.step } = toFall p := by
  unfold toFall
  dsimp only
  cases p.step with
  | flash t => cases t <;> rfl
  | _ => rfl

/-- The passing of time lets no trigger fall by itself. -/
theorem triggerDue_elapse (n : Nat) (s : State) : triggerDue (elapse n s) = s.spu.pass.any toFall := by
  rw [triggerDue_eq, elapse_spu, Option.any_map]
  exact congrArg (s.spu.pass.any ·) (funext (toFall_elapseStep n))

/-- A flash darkened is posted to the two sides and noted for the record (R83, R97). -/
theorem darken_eq (f : Flash) (t : Nat) (s : State) :
    darken f t s =
      let dl := doseOf (sideRate .left f.lit f.drives s) t
      let dr := doseOf (sideRate .right f.lit f.drives s) t
      { s with
        light := .dark
        volume := s.volume.map fun v => postDose (leftSide v) (rightSide v) dl dr v
        spu := { s.spu with pass := s.spu.pass.map fun p => { p with shot := { p.shot with
          onTime := t, doseLeft := dl, doseRight := dr } } } } := rfl

theorem expiring_none {t : Option Timer} (ht : t = none) (f : State → State) (s : State) :
    expiring t f s = s := by rw [ht]; rfl

theorem expiring_some {t : Option Timer} {u : Timer} (ht : t = some u) (f : State → State) (s : State) :
    expiring t f s = f (elapse u.left s) := by rw [ht]; rfl

/-- A frame grace runs exactly where the pass stands at it (R115). -/
theorem graceTimer_eq_some_iff (s : State) (t : Timer) :
    graceTimer s = some t ↔ ∃ p, s.spu.pass = some p ∧ p.step = .grace t := by
  unfold graceTimer
  rw [Option.bind_eq_some_iff]
  refine exists_congr fun p => and_congr_right fun _ => ?_
  cases p.step <;> simp

theorem flashRunOut_of_not_flash {s : State} (hs : ∀ f, s.light ≠ .flash f) : flashRunOut s = s := by
  unfold flashRunOut
  split
  next f hf => exact absurd hf (hs f)
  next => rfl

/-- A flash run out is dark with its whole figure posted, after a trigger that falls with it (R82, R83, R97). -/
theorem flashRunOut_of_flash {s : State} {f : Flash} (hf : s.light = .flash f) :
    let u := elapse f.timer.left s
    let w := if s.spu.pass.any toFall then trigger u else u
    let dl := doseOf (sideRate .left f.lit f.drives s) f.timer.figure
    let dr := doseOf (sideRate .right f.lit f.drives s) f.timer.figure
    let dark : State := { w with
      light := .dark
      volume := s.volume.map fun v => postDose (leftSide v) (rightSide v) dl dr v
      spu := { w.spu with pass := w.spu.pass.map fun p => { p with shot := { p.shot with
        onTime := f.timer.figure, doseLeft := dl, doseRight := dr } } } }
    flashRunOut s = flashReported dark ∧ dark.settings = s.settings := by
  intro u w dl dr dark
  obtain ⟨spu, hw⟩ : ∃ spu, w = { u with spu := spu } := by
    simp only [w]
    split
    · exact trigger_eq_modSpu u
    · exact ⟨u.spu, rfl⟩
  have hset : w.settings = s.settings := by
    rw [hw]; exact elapse_settings _ s
  have hvol : w.volume = s.volume := by
    rw [hw]; exact elapse_volume _ s
  have hdark : darken f f.timer.figure w = dark := by
    rw [darken_eq, sideRate_congr _ _ _ hset, sideRate_congr _ _ _ hset, hvol]
  have hrun : flashRunOut s = flashExpired f u := by
    simp only [flashRunOut, hf, u]
  refine ⟨?_, hset⟩
  rw [hrun, ← hdark, flashExpired, triggerDue_elapse]

/-- The end of a flash with an exposure pending starts the frame grace, or has it expire at once where it is 0; else
the shot completes (R114, R115). -/
theorem flashReported_eq {s : State} {ms : Nat} (hms : s.settings.frameGrace = ms) :
    flashReported s =
      if s.spu.left.pending || s.spu.right.pending then
        if ms = 0 then completeShot (missed s)
        else modPass (fun p => { p with step := .grace { figure := ms * 1000, left := ms * 1000 } }) s
      else completeShot s := by
  rw [← graceExpired_eq, ← hms]; rfl

/-- Settles O53. An expiry with its timer stopped is no effect. With it running, the grace's closes each camera still
pending, and the flash's darkens it after the trigger and reports it, as the lemmas above say. -/
theorem flashesAndGracesEnd : Obligations.FlashesAndGracesEnd := by
  unfold Obligations.FlashesAndGracesEnd
  intro s grace missed'
  refine ⟨fun h => ?_, fun p t hp ht => ?_, fun h => ?_, fun f hf => ?_⟩
  · have hnone : graceTimer s = none := by
      refine Option.eq_none_iff_forall_ne_some.mpr fun t ht => h ?_
      obtain ⟨p, hp, hstep⟩ := (graceTimer_eq_some_iff s t).mp ht
      exact ⟨p, t, hp, hstep⟩
    show Host.Outcome.next (finish s (expiring (graceTimer s) graceExpired s)) = _
    rw [expiring_none hnone]
  · show Host.Outcome.next (finish s (expiring (graceTimer s) graceExpired s)) = _
    rw [expiring_some ((graceTimer_eq_some_iff s t).mpr ⟨p, hp, ht⟩), graceExpired_eq]
    rfl
  · show Host.Outcome.next (finish s (flashRunOut s)) = _
    rw [flashRunOut_of_not_flash h]
  · intro u falls w dl dr dark ms
    obtain ⟨hrun, hset⟩ : flashRunOut s = flashReported dark ∧ dark.settings = s.settings :=
      flashRunOut_of_flash hf
    show Host.Outcome.next (finish s (flashRunOut s)) = _
    rw [hrun, flashReported_eq (congrArg Settings.frameGrace hset)]
    rfl

end Sys2Proof.Machine.Flashes

namespace Sys2Proof.Machine.OtherTimers

open Detours (check_congr)
open Flashes (expiring_none expiring_some)
open PreviewPeriods (sideRate_congr)

/-- The preview timer's expiry after its time left has passed ends preview with the whole period posted (R87). -/
theorem previewExpired_elapse {s : State} {p : Preview} (hp : s.light = .preview p) :
    let u := elapse p.timer.left s
    previewExpired u =
      setCond (if p.cutExpiry then .doseCeiling else .previewLimit)
        (edge .previewOn false { u with
          light := .dark
          volume := s.volume.map fun v => postDose (leftSide v) (rightSide v)
            (doseOf (sideRate .left p.lit p.drives s) p.timer.figure)
            (doseOf (sideRate .right p.lit p.drives s) p.timer.figure) v }) := by
  intro u
  have hlight : u.light = .preview { p with
      timer := runTimer p.timer.left p.timer, limitLeft := p.limitLeft - p.timer.left } := by
    rw [elapse_light, hp]; rfl
  have hran : ranFor (runTimer p.timer.left p.timer) = p.timer.figure := by
    simp [ranFor, runTimer]
  have hset : u.settings = s.settings := elapse_settings _ s
  have hvol : u.volume = s.volume := elapse_volume _ s
  simp only [previewExpired, hlight, closePeriod, postLight, hran, sideRate_congr _ _ _ hset, State.modVolume, hvol]
  rfl

/-- A counter counts time where its edge is clear and its condition's standing differs from its inversion (R139). -/
theorem countsTime_iff (s : State) (c : Counter) :
    let condition : Option Bool :=
      match c.event with
      | .running => some (decide (s.csq.runState = .running))
      | .held => some (decide (s.csq.runState = .held))
      | .queueWait => some (queueWaiting s)
      | .previewOn => some (previewing s)
      | _ => none
    countsTime s c = true ↔ c.edge = false ∧ condition = some (!c.invert) := by
  intro condition
  have hcond : condition = if isDuration c.event then some (stands c.event s) else none := by
    simp only [condition]
    cases c.event <;> rfl
  rw [hcond]
  cases hd : isDuration c.event with
  | false => simp [countsTime, hd]
  | true => simp [countsTime, hd, Bool.eq_not]

/-- Settles O58. An expiry with its timer stopped is no effect; with it running, the time left passes and its owner's
effect follows, which leaves the base at 0 when it wraps. -/
theorem otherTimersExpire : Obligations.OtherTimersExpire := by
  unfold Obligations.OtherTimersExpire
  intro s
  refine ⟨fun p hp => ?_, fun h => ?_, fun t ht => ?_, fun h => ?_, fun hbase => ?_, fun n => ?_⟩
  · show Host.Outcome.next (finish s (expiring (previewTimer s) previewExpired s)) = _
    rw [expiring_some (show previewTimer s = some p.timer by simp only [previewTimer, hp]), previewExpired_elapse hp]
  · have hnone : previewTimer s = none := by
      unfold previewTimer
      split
      next p hp => exact absurd hp (h p)
      next => rfl
    show Host.Outcome.next (finish s (expiring (previewTimer s) previewExpired s)) = _
    rw [expiring_none hnone]
  · show Host.Outcome.next (finish s (expiring s.rq.staleTimer (fun t => setCond .queueStale (stopStale t)) s)) = _
    rw [expiring_some ht]
    simp only [stopStale, State.modRq, elapse_rq]
  · show Host.Outcome.next (finish s (expiring s.rq.staleTimer (fun t => setCond .queueStale (stopStale t)) s)) = _
    rw [expiring_none h]
  · refine ⟨finish s (elapse (2 ^ 48 - s.cth.timeBase) s), rfl, ?_, rfl⟩
    rw [finish_cth_timeBase, elapse_cth]
    show (s.cth.timeBase + (2 ^ 48 - s.cth.timeBase)) % 2 ^ 48 = 0
    rw [Nat.add_sub_cancel' (Nat.le_of_lt hbase), Nat.mod_self]
  · intro c condition
    have hc : counterNamed n s.cth = c := by cases n <;> rfl
    show Host.Outcome.next (finish s
      (if countsTime s (counterNamed n s.cth) then elapse (1000 - (counterNamed n s.cth).residue) s else s)) = _
    rw [hc]
    exact congrArg (fun t => Host.Outcome.next (finish s t)) (check_congr (countsTime_iff s c) rfl fun _ => rfl)

end Sys2Proof.Machine.OtherTimers

/-! Proofs of the family of the result queue: how records are placed and written, how they are taken, read and flushed
(chapter 8), and the requests of its settings, the counters and the turn history (chapter 9). -/

namespace Sys2Proof.Machine.ResultQueue

open Detours (respond_ite check_congr)

/-! ### The answers of a request -/

/-- A taken request replies OK with its content (R145). -/
theorem respond_accept (c : Instr) (s : State) (content : List Byte) (t : State) :
    respond c s (accept content t) = .next (taken c content s t) := rfl

/-- A refused request replies its result and changes nothing else (R153). -/
theorem respond_refuse (c : Instr) (s : State) (r : Result) : respond c s (refuse r s) = .next (refused c r s) := rfl

/-! ### A record placed in the queue (R126, R132 to R134) -/

/-- A rise of a level condition is the notice that falls due where it is enabled, on the whole state (R146). -/
theorem riseLevel_eq (c : Cond) (s : State) :
    riseLevel c s = { s with lif := { s.lif with noticeDue := s.lif.noticeDue || enabledNow c s } } := by
  unfold riseLevel gain
  cases enabledNow c s with
  | true => simp [State.modLif]
  | false => simp

/-- What the stale timer is restarted to: the stale interval, or stopped where that is 0 (R133). -/
def restartedStale (s : State) : Option Timer :=
  if s.settings.staleInterval = 0 then none
  else some { figure := s.settings.staleInterval * 1000000, left := s.settings.staleInterval * 1000000 }

/-- The record that comes to the head joins the summary and restarts the stale timer (R132, R133). -/
theorem restartStale_reachHead (r : Record) (s : State) :
    restartStale (reachHead r s) = { s with rq := { s.rq with
      accumulated := s.rq.accumulated ||| r.flags, staleTimer := restartedStale s } } := rfl

/-- In an empty FIFO a record stands alone and reaches the head. -/
theorem placeRecord_of_empty {s : State} (hroom : s.rq.fifo.length < s.settings.capacity) (hempty : s.rq.fifo = [])
    (r : Record) :
    placeRecord r s = { s with
      lif := { s.lif with noticeDue := s.lif.noticeDue || s.lif.mask.getLsbD 24 }
      rq := { s.rq with
        fifo := [r], accumulated := s.rq.accumulated ||| r.flags, staleTimer := restartedStale s } } := by
  simp only [placeRecord]
  rw [if_pos hroom, if_pos (List.isEmpty_iff.mpr hempty), restartStale_reachHead, riseLevel_eq]
  have halone : [r] = s.rq.fifo ++ [r] := by rw [hempty, List.nil_append]
  conv => rhs; rw [halone]
  rfl

/-- Behind other records, in a FIFO with room, a record joins the tail and nothing else changes. -/
theorem placeRecord_of_room {s : State} (hroom : s.rq.fifo.length < s.settings.capacity) (hne : s.rq.fifo ≠ [])
    (r : Record) : placeRecord r s = { s with rq := { s.rq with fifo := s.rq.fifo ++ [r] } } := by
  simp only [placeRecord]
  rw [if_pos hroom, if_neg (by simpa using hne)]
  rfl

/-- At a full FIFO a record takes the holding slot. -/
theorem placeRecord_of_full {s : State} (hfull : ¬ s.rq.fifo.length < s.settings.capacity) (r : Record) :
    placeRecord r s = { s with
      lif := { s.lif with noticeDue := s.lif.noticeDue || s.lif.mask.getLsbD 25 }
      rq := { s.rq with holding := some r } } := by
  simp only [placeRecord]
  rw [if_neg hfull, riseLevel_eq]
  rfl

/-! ### The bytes of a record (section 10.6) -/

/-- A byte of members of which only the first three can stand is the sum of their weights. -/
theorem set8_firstThree (a b c : Bool) :
    set8 ⟨a, b, c, false, false, false, false, false⟩ =
      num 1 ((if a then 1 else 0) + (if b then 2 else 0) + (if c then 4 else 0)) := by
  cases a <;> cases b <;> cases c <;> rfl

/-- Settles O20. A record is placed on the state whose number has moved on, in one of three ways: into an empty FIFO,
behind other records, or into the holding slot. Its bytes are those of its kind, item by item. -/
theorem recordsAreHandedOver : Obligations.RecordsAreHandedOver := by
  unfold Obligations.RecordsAreHandedOver
  refine ⟨fun flags body s => ?placed, fun r => ?bytes⟩
  case placed =>
    intro r next room rises
    let numbered : State := s.modRq fun q => { q with nextNumber := next }
    show placeRecord r numbered = _
    by_cases hroom : s.rq.fifo.length < s.settings.capacity
    · have hroomTrue : room = true := decide_eq_true hroom
      by_cases hempty : s.rq.fifo = []
      · have hrises : rises = s.lif.mask.getLsbD 24 := by simp only [rises, hroomTrue, hempty]; rfl
        rw [placeRecord_of_empty (s := numbered) hroom hempty, hrises, if_pos hroomTrue, if_pos hempty]
        rfl
      · have hrises : rises = false := by simp [rises, hroomTrue, hempty]
        rw [placeRecord_of_room (s := numbered) hroom hempty, hrises, if_pos hroomTrue, if_neg hempty, Bool.or_false]
        rfl
    · have hroomFalse : ¬ room = true := by simpa [room] using hroom
      have hrises : rises = s.lif.mask.getLsbD 25 := if_neg hroomFalse
      rw [placeRecord_of_full (s := numbered) hroom, hrises, if_neg hroomFalse]
      rfl
  case bytes =>
    intro label side place direction result parent header
    have hside (y : SideId) : encSideId y = side y := by
      rcases y with _ | ⟨exposed, n, face, l⟩ | ⟨f, i⟩ <;> rfl
    obtain ⟨number, stamp, flags, body⟩ := r
    cases body with
    | shot x =>
      have hplace (p : Position) : encPositionAt x.level p = num 1 x.level ++ place p := by
        cases p <;> rfl
      show header 1 ++ encShotRecord x = _
      simp only [encShotRecord, hside, hplace, set8_firstThree]
      rfl
    | turn x =>
      have hresult (y : TurnResult) : num 1 (turnResultCode y) = result y := by
        rcases y with _ | kind
        · rfl
        · cases kind <;> rfl
      show header 2 ++ encTurnRecord x = _
      simp only [encTurnRecord, hresult]
      rfl
    | detour x =>
      have hparent (f : InsertFrame) (found : SideId) : encParent found f.parent = parent f found := by
        simp only [parent]
        rcases f.parent with ⟨k, half⟩ | ⟨g, i⟩
        · simp only [encParent, hside]; rfl
        · rfl
      show header 3 ++ encDetourRecord x = _
      simp only [encDetourRecord, hparent]
      rfl
    | finish x => rfl

/-! ### The requests of the queue (R128 to R132) -/

/-- The queue once its head is taken: what is left with the held record at its tail, the record now at the head in the
summary, and the stale timer restarted or stopped (R128). -/
theorem takeHead_eq (rest : List Record) (s : State) :
    let left := rest ++ s.rq.holding.toList
    takeHead rest s = { s with rq := { s.rq with
      fifo := left, holding := none
      accumulated := match left with
        | h :: _ => s.rq.accumulated ||| h.flags
        | [] => s.rq.accumulated
      staleTimer := if left = [] then none else restartedStale s } } := by
  intro left
  show (match left with
    | h :: _ => restartStale (reachHead h (s.modRq fun q => { q with fifo := left, holding := none }))
    | [] => stopStale (s.modRq fun q => { q with fifo := left, holding := none })) = _
  cases left <;> rfl

theorem takeHead_fifo (rest : List Record) (s : State) :
    (takeHead rest s).rq.fifo = rest ++ s.rq.holding.toList := by rw [takeHead_eq]

theorem takeHead_holding (rest : List Record) (s : State) : (takeHead rest s).rq.holding = none := by rw [takeHead_eq]

theorem takeHead_nextNumber (rest : List Record) (s : State) :
    (takeHead rest s).rq.nextNumber = s.rq.nextNumber := by rw [takeHead_eq]

theorem takeHead_settings (rest : List Record) (s : State) : (takeHead rest s).settings = s.settings := by
  rw [takeHead_eq]

theorem takeHead_cth (rest : List Record) (s : State) : (takeHead rest s).cth = s.cth := by rw [takeHead_eq]

/-- The record that is handed over in a state. -/
def recordNow (flags : BitVec 16) (body : RecordBody) (s : State) : Record :=
  { number := s.rq.nextNumber, stamp := s.cth.timeBase, flags := flags, body := body }

theorem handOver_nextNumber (flags : BitVec 16) (body : RecordBody) (s : State) :
    (handOver flags body s).rq.nextNumber = wrapSucc 32 s.rq.nextNumber := by
  rw [handOver_rq]
  dsimp only
  split
  · split <;> rfl
  · rfl

theorem handOver_fifo (flags : BitVec 16) (body : RecordBody) (s : State) :
    (handOver flags body s).rq.fifo =
      if s.rq.fifo.length < s.settings.capacity then s.rq.fifo ++ [recordNow flags body s] else s.rq.fifo := by
  rw [handOver_rq]
  dsimp only
  split
  · by_cases hempty : s.rq.fifo = []
    · rw [if_pos hempty, hempty]; rfl
    · rw [if_neg hempty]; rfl
  · rfl

theorem handOver_holding (flags : BitVec 16) (body : RecordBody) (s : State) :
    (handOver flags body s).rq.holding =
      if s.rq.fifo.length < s.settings.capacity then s.rq.holding else some (recordNow flags body s) := by
  rw [handOver_rq]
  dsimp only
  split
  · split <;> rfl
  · rfl

/-- Settles O40. A record produced at the full FIFO waits in the holding slot and is moved to the tail by the taking;
produced after it, it finds room at the same tail, with the same number and stamp. -/
theorem resultsAreTaken : Obligations.ResultsAreTaken := by
  unfold Obligations.ResultsAreTaken
  refine fun s => ⟨fun hempty => ?empty, fun r rest hfifo => ?taken, fun r rest flags body hfifo hfull hnone => ?order⟩
  case empty =>
    show respond .takeResult s _ = _
    simp only [hempty, respond_accept, encResult]
    rfl
  case taken =>
    intro left restarted
    show respond .takeResult s _ = _
    simp only [hfifo, respond_accept, encResult, takeHead_fifo, takeHead_holding]
    exact congrArg (fun t => Host.Outcome.next (taken .takeResult
      (num 1 left.length ++ bit false ++ 1#8 :: encRecord r) s t)) (takeHead_eq rest s)
  case order =>
    intro a b
    have hno : ¬ s.rq.fifo.length < s.settings.capacity := by omega
    have hroom : rest.length < s.settings.capacity := by rw [← hfull, hfifo]; exact Nat.lt_succ_self _
    have hleft : (takeHead rest s).rq.fifo = rest := by rw [takeHead_fifo, hnone]; exact List.append_nil rest
    have hsame : recordNow flags body (takeHead rest s) = recordNow flags body s := by
      simp only [recordNow, takeHead_nextNumber, takeHead_cth]
    have hb : (takeHead rest s).rq.fifo.length < (takeHead rest s).settings.capacity := by
      rwa [hleft, takeHead_settings]
    refine ⟨?_, takeHead_holding _ _, ?_, ?_⟩
    · show (takeHead rest (handOver flags body s)).rq.fifo = (handOver flags body (takeHead rest s)).rq.fifo
      rw [takeHead_fifo, handOver_holding, if_neg hno, handOver_fifo, if_pos hb, hleft, hsame]
      rfl
    · show (handOver flags body (takeHead rest s)).rq.holding = none
      rw [handOver_holding, if_pos hb, takeHead_holding]
    · show (takeHead rest (handOver flags body s)).rq.nextNumber =
        (handOver flags body (takeHead rest s)).rq.nextNumber
      rw [takeHead_nextNumber, handOver_nextNumber, handOver_nextNumber, takeHead_nextNumber]

/-- The summary in its two bytes, by mode (R132). -/
theorem summary_toNat (q : Rq) :
    (summary q).toNat =
      match q.mode, q.fifo with
      | .accumulated, _ => q.accumulated.toNat
      | .head, r :: _ => r.flags.toNat
      | .head, [] => 0 := by
  unfold summary
  cases q.mode with
  | accumulated => rfl
  | head => cases q.fifo <;> rfl

/-- Settles O41. Each reply is the report of the state as it stands; the status report ends with the summary. -/
theorem queueIsRead : Obligations.QueueIsRead := by
  unfold Obligations.QueueIsRead
  refine fun s => ⟨?peek, ?queue, ?conditions⟩
  case peek =>
    show respond .peekResult s _ = _
    simp only [respond_accept, encResult]
    cases s.rq.fifo <;> rfl
  case queue => rfl
  case conditions =>
    obtain ⟨content, hcontent⟩ : ∃ content, encStatus s = content ++ num 2 (summary s.rq).toNat := ⟨_, rfl⟩
    refine ⟨content, ?_⟩
    show respond .readConditions s (accept (encStatus s) s) = _
    rw [respond_accept, hcontent]
    exact congrArg (fun n => Host.Outcome.next (taken .readConditions (content ++ num 2 n) s s)) (summary_toNat s.rq)

/-- With nothing in the queue, of the level conditions only HELD_NOW can stand (R134, R147). -/
theorem levelConditions_of_empty {s : State} (hfifo : s.rq.fifo = []) (hholding : s.rq.holding = none) :
    levelConditions s = condIf (s.csq.runState == .held) .heldNow := by
  simp [levelConditions, hfifo, hholding, condIf]

theorem condIf_heldNow_queueBits (b : Bool) :
    (condIf b .heldNow).getLsbD 24 = false ∧ (condIf b .heldNow).getLsbD 25 = false := by
  cases b <;> decide

/-- Settles O42. The bits of QUEUE_NONEMPTY and QUEUE_HOLDING in the condition set are the level conditions' alone,
and both fall with the queue empty. -/
theorem resultsAreFlushed : Obligations.ResultsAreFlushed := by
  unfold Obligations.ResultsAreFlushed
  intro s flushed
  have hlevel : levelConditions flushed = condIf (s.csq.runState == .held) .heldNow := levelConditions_of_empty rfl rfl
  have hset (n : Nat) (hn : (condIf (s.csq.runState == .held) .heldNow).getLsbD n = false) :
      (conditionSet flushed).getLsbD n = s.lif.latched.getLsbD n := by
    rw [conditionSet, hlevel, BitVec.getLsbD_or, hn, Bool.or_false]
  obtain ⟨hnonempty, hholding⟩ := condIf_heldNow_queueBits (s.csq.runState == .held)
  refine ⟨?_, hset 24 hnonempty, hset 25 hholding⟩
  have hcount : s.rq.holding.toList.length = if s.rq.holding.isSome then 1 else 0 := by
    cases s.rq.holding <;> rfl
  show respond .flushResults s _ = _
  rw [respond_ite, respond_refuse, respond_accept, hcount, apply_ite Host.Outcome.next]
  rfl

/-! ### The settings of the queue, the counters and the history (R131, R132, R135, R136, R142) -/

/-- The two summary modes by their codes (R153). -/
theorem summaryModeOf_eq (b : Byte) :
    summaryModeOf b = if b = 0 then some .head else if b = 1 then some .accumulated else none := by
  revert b; decide

/-- The two counters by their codes (R153). -/
theorem counterOf_eq (b : Byte) : counterOf b = if b = 0 then some .a else if b = 1 then some .b else none := by
  revert b; decide

/-- A strict yes or no has no code above 1 (R153). -/
theorem strictBoolOf_eq (b : Byte) : strictBoolOf b = if 1 < b.toNat then none else some (decide (b = 1)) := by
  revert b; decide

/-- A byte that is a strict yes or no is written back as it was read (R153). -/
theorem bit_decide_eq_one {b : Byte} (hb : ¬ 1 < b.toNat) : bit (decide (b = 1)) = [b] := by
  revert b; decide

/-- The events of the counters in the order of their codes (R136, R153). -/
def counterEvents : List CounterEvent :=
  [.none, .turnsCompleted, .turnFaults, .turnRetries, .settleRestarts, .shotsFired, .shotsWithheld,
   .framesLeft, .framesRight, .strayFrames, .guardTrips, .holdsEntered, .running, .held, .queueWait, .previewOn]

theorem counterEventOf_eq (b : Byte) : counterEventOf b = counterEvents[b.toNat]? := by
  revert b; decide

theorem looseBoolOf_eq (b : Byte) : looseBoolOf b = decide (b ≠ 0) := by
  revert b; decide

theorem not_capacity_iff (b : Byte) : b.toNat ≠ 32 ∧ b.toNat ≠ 64 ↔ b ≠ 32 ∧ b ≠ 64 := by
  simp [← BitVec.toNat_inj]

theorem someHeld_iff (q : Rq) : (!q.fifo.isEmpty || q.holding.isSome) = true ↔ q.fifo ≠ [] ∨ q.holding.isSome := by
  simp

/-- Settles O43. The checks are the owner's one by one: each code byte read by its table has the codes named, and a
report that changes nothing is the state's own content. -/
theorem queueAndCounterSettings : Obligations.QueueAndCounterSettings := by
  unfold Obligations.QueueAndCounterSettings
  refine ⟨fun s => ⟨fun capacity => ?capacity, fun mode => ?mode, ?clear⟩,
    fun s => ⟨rfl, rfl, rfl, fun counter value event edge threshold invert => ?counter, fun enable => ?enable⟩,
    fun c => ?counterBytes, fun c => ?historyBytes⟩
  case capacity =>
    show respond (.setQueueCapacity capacity) s _ = _
    simp only [respond_ite, respond_refuse, respond_accept, apply_ite Host.Outcome.next]
    exact check_congr Iff.rfl rfl fun _ => check_congr (not_capacity_iff capacity) rfl fun _ =>
      check_congr (someHeld_iff s.rq) rfl fun _ => rfl
  case mode =>
    show respond (.setSummaryMode mode) s _ = _
    rw [summaryModeOf_eq]
    by_cases hhead : mode = 0
    · simp only [if_pos hhead]; rfl
    · by_cases hacc : mode = 1
      · simp only [if_neg hhead, if_pos hacc]; rfl
      · simp only [if_neg hhead, if_neg hacc]; rfl
  case clear =>
    show respond .clearSummary s _ = _
    rw [respond_accept]
    unfold headFlags
    cases hfifo : s.rq.fifo <;> simp [hfifo, State.modRq]
  case counter =>
    intro c events
    show respond c s _ = _
    have hevents : counterEventOf event = events[event.toNat]? := counterEventOf_eq event
    rw [counterOf_eq, hevents, looseBoolOf_eq, looseBoolOf_eq]
    by_cases ha : counter = 0
    · simp only [if_pos ha]
      cases events[event.toNat]? <;> rfl
    · by_cases hb : counter = 1
      · simp only [if_neg ha, if_pos hb]
        cases events[event.toNat]? <;> rfl
      · simp only [if_neg ha, if_neg hb]
        cases events[event.toNat]? <;> rfl
  case enable =>
    show respond _ s _ = _
    rw [strictBoolOf_eq]
    by_cases hrange : 1 < enable.toNat
    · simp only [if_pos hrange]; rfl
    · simp only [if_neg hrange, bit_decide_eq_one hrange]; rfl
  case counterBytes => rfl
  case historyBytes =>
    intro entry
    have hentry (x : Option HistoryRecord) : item 20 (x.map encHistory) = entry x := by
      rcases x with _ | ⟨fromOpening, toOpening, leaf, direction, start, finish, _ | kind⟩
      · rfl
      · rfl
      · cases kind <;> rfl
    simp only [encHistories, hentry]

end Sys2Proof.Machine.ResultQueue

/-! Proofs of the family of the counters, the time base and the turn history (chapter 9): what an event, an edge, a
closing scope and the passing of time change, and what the close of an event adds (chapter 10). -/

namespace Sys2Proof.Machine.CountersAndTime

/-! ### Counting on the whole state (R137, R140) -/

/-- The link once the counters have counted: a wrap sets COUNTER_OVERFLOW, whose new standing is a notice where it is
enabled (R140, R146). -/
def overflowed (wrapped : Bool) (l : Lif) : Lif :=
  { l with
    latched := if wrapped then l.latched ||| 0x00020000#32 else l.latched
    noticeDue := l.noticeDue || (wrapped && l.mask.getLsbD 17 && !l.latched.getLsbD 17) }

theorem overflowed_eq_ite (wrapped : Bool) (l : Lif) :
    overflowed wrapped l =
      if wrapped then { l with
        latched := l.latched ||| 0x00020000#32
        noticeDue := l.noticeDue || (l.mask.getLsbD 17 && !l.latched.getLsbD 17) }
      else l := by
  cases wrapped <;> simp [overflowed]

/-- Two wraps set COUNTER_OVERFLOW once: after the first it is not newly set. -/
theorem overflowed_overflowed (x y : Bool) (l : Lif) :
    overflowed y (overflowed x l) = overflowed (x || y) l := by
  cases x with
  | false => simp [overflowed]
  | true => cases y <;> simp [overflowed, BitVec.or_assoc]

/-- A latched condition is set on the link alone (R146, R147). -/
theorem setCond_eq (c : Cond) (s : State) :
    setCond c s = { s with lif := { s.lif with
      latched := s.lif.latched ||| condWord c
      noticeDue := s.lif.noticeDue || (!latchedNow c s && enabledNow c s) } } := by
  rw [← setCond_lif]
  unfold setCond gain
  split
  · rfl
  · split <;> rfl

/-- Both counters are put through the function, and a wrap is told on the link; nothing else changes (R140). -/
theorem updateCounters_eq (f : Counter → Counter × Bool) (s : State) :
    updateCounters f s = { s with
      lif := overflowed ((f s.cth.a).2 || (f s.cth.b).2) s.lif
      cth := { s.cth with a := (f s.cth.a).1, b := (f s.cth.b).1 } } := by
  rw [overflowed_eq_ite]
  simp only [updateCounters, setCond_eq]
  split
  · rw [Bool.and_comm]; rfl
  · rfl

/-- A counter raised by 1 where `b` holds: its value and its wrap (R140). -/
theorem bumpIf_eq (b : Bool) (c : Counter) :
    bumpIf b c =
      (if b then { c with value := (c.value + 1) % 4294967296 } else c, b && decide (c.value + 1 ≥ 4294967296)) := by
  cases b <;> rfl

/-- Two counting steps are one, of which a wrap of either is told. -/
theorem updateCounters_updateCounters (f g : Counter → Counter × Bool) (s : State) :
    updateCounters g (updateCounters f s) =
      updateCounters (fun c => ((g (f c).1).1, (f c).2 || (g (f c).1).2)) s := by
  simp only [updateCounters_eq, overflowed_overflowed, Bool.or_assoc, Bool.or_left_comm]

/-! ### Scoped events (R137, R138) -/

/-- A scoped event is one of the four (R137). -/
theorem isScoped_eq (e : CounterEvent) :
    isScoped e = (e == .turnRetries || e == .settleRestarts || e == .shotsFired || e == .shotsWithheld) := by
  cases e <;> rfl

/-- A scoped event adds to the one tally of its scope, while that is open (R136, R138). -/
theorem tallyEvent_eq (e : CounterEvent) (t : Tallies) :
    tallyEvent e t = { t with
      retries := if e = .turnRetries ∧ t.turnOpen then satSucc 65535 t.retries else t.retries
      restarts := if e = .settleRestarts ∧ (t.turnOpen ∨ t.settleOpen) then satSucc 65535 t.restarts else t.restarts
      fired := if e = .shotsFired ∧ t.passOpen then satSucc 65535 t.fired else t.fired
      withheld := if e = .shotsWithheld ∧ t.passOpen then satSucc 65535 t.withheld else t.withheld } := by
  obtain ⟨retries, restarts, fired, withheld, turnOpen, settleOpen, passOpen⟩ := t
  cases e with
  | turnRetries => cases turnOpen <;> rfl
  | settleRestarts => cases turnOpen <;> cases settleOpen <;> rfl
  | shotsFired => cases passOpen <;> rfl
  | shotsWithheld => cases passOpen <;> rfl
  | _ => rfl

/-! ### The judgement of a closing scope (R138) -/

/-- Whether the judgement of a tally counts: the counter is of the event, and its threshold, of 1 or more, is reached
or, inverted, is not (R138). -/
def meets (e : CounterEvent) (tally : Nat) (c : Counter) : Bool :=
  c.event == e && decide (1 ≤ c.threshold) && (decide (c.threshold ≤ tally) != c.invert)

theorem judge_eq (e : CounterEvent) (tally : Nat) (s : State) :
    judge e tally s = updateCounters (fun c => bumpIf (meets e tally c) c) s := rfl

/-- Counting leaves the selectors, so that it does not change what a judgement counts. -/
theorem meets_bumpIf (e : CounterEvent) (tally : Nat) (b : Bool) (c : Counter) :
    meets e tally (bumpIf b c).1 = meets e tally c := by
  cases b <;> rfl

/-- A counter counts one event alone. -/
theorem meets_exclusive {e e' : CounterEvent} (he : e ≠ e') (t t' : Nat) (c : Counter) (h : meets e t c = true) :
    meets e' t' c = false := by
  have hevent : c.event = e := by simp_all [meets]
  simp [meets, hevent, he]

/-- The judgements of two events are one counting step in which each counter counts at most once. -/
theorem judge_judge {e e' : CounterEvent} (he : e ≠ e') (t t' : Nat) (s : State) :
    judge e' t' (judge e t s) = updateCounters (fun c => bumpIf (meets e t c || meets e' t' c) c) s := by
  rw [judge_eq, judge_eq, updateCounters_updateCounters]
  refine congrArg (updateCounters · s) (funext fun c => ?_)
  rw [meets_bumpIf]
  cases h : meets e t c with
  | true => rw [meets_exclusive he t t' c h]; simp [bumpIf]
  | false => simp [bumpIf]

/-- Settles O18. Events, edges and judgements are each one counting step, whose two counters and whose wrap are those
of `updateCounters_eq`; a scope's tallies are changed beside it. -/
theorem countersCount : Obligations.CountersCount := by
  unfold Obligations.CountersCount
  refine ⟨fun e entry s => ⟨?event, ?edge⟩, fun s => ⟨?pass, ?turn, ?settle⟩⟩
  case event =>
    rw [event, updateCounters_eq, overflowed_eq_ite]
    simp only [bumpIf_eq, isScoped_eq, tallyEvent_eq]
    rfl
  case edge =>
    rw [edge, updateCounters_eq, overflowed_eq_ite]
    simp only [bumpIf_eq]
  case pass =>
    rw [closePassScope, judge_judge (by decide), updateCounters_eq, overflowed_eq_ite]
    simp only [bumpIf_eq]
    rfl
  case turn =>
    rw [closeTurnScope, judge_judge (by decide), updateCounters_eq, overflowed_eq_ite]
    simp only [bumpIf_eq]
    rfl
  case settle =>
    rw [closeSettleScope, judge_eq, updateCounters_eq, overflowed_eq_ite]
    simp only [bumpIf_eq]
    rfl

/-! ### The passing of time (R135, R139) -/

/-- A counter counts time by its selector's condition where its edge is clear, and, inverted, against it (R139). -/
theorem countsTime_eq (s : State) (c : Counter) :
    countsTime s c = (!c.edge &&
      (match c.event with
        | .running => (s.csq.runState == .running) != c.invert
        | .held => (s.csq.runState == .held) != c.invert
        | .queueWait => queueWaiting s != c.invert
        | .previewOn => previewing s != c.invert
        | _ => false)) := by
  unfold countsTime
  cases c.event with
  | running => rfl
  | held => rfl
  | queueWait => rfl
  | previewOn => rfl
  | _ => simp [isDuration]

/-- The milliseconds a counter takes up, the residue it keeps, and its wrap (R139, R140). -/
theorem countTime_eq (s : State) (n : Nat) (c : Counter) :
    countTime s n c =
      (if countsTime s c then
        { c with value := (c.value + (c.residue + n) / 1000) % 2 ^ 32, residue := (c.residue + n) % 1000 }
      else c, countsTime s c && decide (2 ^ 32 ≤ c.value + (c.residue + n) / 1000)) := by
  unfold countTime bumpBy
  cases countsTime s c <;> rfl

theorem queueWaiting_eq (s : State) :
    queueWaiting s = (decide (s.csq.runState = .running) && s.rq.holding.isSome &&
      (s.csq.awaiting.isSome || s.spu.pass.any fun p => decide (p.step = .toBegin))) := rfl

theorem previewing_iff (s : State) : previewing s = true ↔ ∃ p, s.light = .preview p := by
  unfold previewing
  cases s.light <;> simp

/-- Settles O19. The counters count first, on the state as it stands; the time base and the timers then run on. -/
theorem timePasses : Obligations.TimePasses := by
  unfold Obligations.TimePasses
  intro n s counts reached counted wraps overflow run
  refine ⟨queueWaiting_eq s, previewing_iff s, ?_⟩
  have hcounts : countsTime s = counts := funext (countsTime_eq s)
  have hcount (c : Counter) : countTime s n c = (counted c, wraps c) := by
    rw [countTime_eq, hcounts]
  simp only [elapse, updateCounters_eq, hcount]
  rfl

/-! ### The close of an event (R139, R146) -/

/-- The state once the wait on the holding slot is seen to enter or exit (R139). -/
def waitSeen (before after : State) : State :=
  if queueWaiting before = queueWaiting after then after else edge .queueWait (queueWaiting after) after

theorem finish_eq_pump (before after : State) : finish before after = pump (waitSeen before after) := by
  simp only [finish, waitSeen, beq_iff_eq]

/-- A wait that is seen changes of the link at most COUNTER_OVERFLOW and its notice (R140). -/
theorem waitSeen_lif (before after : State) :
    ∃ wrapped, (waitSeen before after).lif = overflowed wrapped after.lif := by
  unfold waitSeen
  split
  · exact ⟨false, by rw [overflowed_eq_ite]; rfl⟩
  · exact ⟨_, by rw [edge, updateCounters_eq]⟩

/-- A change of the link that may be made before or after a wrap is told may be made before or after a wait is seen. -/
theorem waitSeen_modLif (before after : State) (f : Lif → Lif)
    (hf : ∀ wrapped, overflowed wrapped (f after.lif) = f (overflowed wrapped after.lif)) :
    waitSeen before (after.modLif f) = (waitSeen before after).modLif f := by
  unfold waitSeen
  show (if queueWaiting before = queueWaiting after then _ else edge .queueWait (queueWaiting after) _) = _
  rw [apply_ite (State.modLif f)]
  refine congrArg _ ?_
  rw [edge, edge, updateCounters_eq, updateCounters_eq]
  simp only [State.modLif, hf]

/-- What the transmitter takes up: the frame and the time it takes on the line (R143, log 7). -/
def sendingOf (straps : BitVec 2) (isReply : Bool) (bytes : List Byte) : Sending :=
  let time := (bytes.length * 10000000 + strapRate straps - 1) / strapRate straps
  { reply := isReply, bytes := bytes, timer := { figure := time, left := time } }

/-- A reply clears the marks of what is seen since, a notice leaves them (R145, R146, log 6). -/
theorem sendFrame_eq (isReply : Bool) (bytes : List Byte) (l : Lif) :
    sendFrame isReply bytes l = { l with
      tx := some (sendingOf l.straps isReply bytes)
      dropSince := !isReply && l.dropSince
      checkSince := !isReply && l.checkSince } := by
  have htime : lineTime l.straps bytes.length =
      (bytes.length * 10000000 + strapRate l.straps - 1) / strapRate l.straps := by
    rw [lineTime, Nat.mul_assoc]
  simp only [sendFrame, htime]
  cases isReply <;> rfl

theorem pump_of_busy {u : State} {x : Sending} (h : u.lif.tx = some x) : pump u = u := by
  simp only [pump, h]

/-- A free transmitter takes up the first reply that waits (R145, R146, log 6). -/
theorem pump_of_reply {u : State} {r : Reply} {rest : List Reply} (htx : u.lif.tx = none)
    (hout : u.lif.outbox = r :: rest) :
    pump u = { u with lif := { u.lif with
      tx := some (sendingOf u.lif.straps true (frameBytes r.tag r.kind (replyBody r u.lif)))
      dropSince := false, checkSince := false } } := by
  simp only [pump, htx, hout, sendFrame_eq, State.modLif]
  rfl

/-- With no reply waiting, a free transmitter takes up the notice that is due, of the condition set (R146). -/
theorem pump_of_noReply {u : State} (htx : u.lif.tx = none) (hout : u.lif.outbox = []) :
    pump u = { u with lif :=
      if u.lif.noticeDue then
        { u.lif with
          tx := some (sendingOf u.lif.straps false (frameBytes 0 0xFF (leBytes 4 (conditionSet u).toNat)))
          noticeDue := false }
      else u.lif } := by
  simp only [pump, htx, hout, sendFrame_eq, State.modLif]
  split <;> rfl

/-- Settles O5. The wait that is seen leaves the transmitter, the replies and the link status, so that the transmitter
takes up what waits in the state that the event left. -/
theorem eventChangesTheTransmitterAlone : Obligations.EventChangesTheTransmitterAlone := by
  unfold Obligations.EventChangesTheTransmitterAlone
  intro s u e rate sending
  show finish s u = _
  rw [finish_eq_pump]
  obtain ⟨wrapped, hlif⟩ : ∃ wrapped, e.lif = overflowed wrapped u.lif := waitSeen_lif s u
  have htx : e.lif.tx = u.lif.tx := by rw [hlif]; rfl
  have hout : e.lif.outbox = u.lif.outbox := by rw [hlif]; rfl
  have hstraps : e.lif.straps = u.lif.straps := by rw [hlif]; rfl
  have hbody (r : Reply) : replyBody r e.lif = replyBody r u.lif := by rw [hlif]; rfl
  show pump e = _
  cases ht : u.lif.tx with
  | some x => exact pump_of_busy (htx.trans ht)
  | none =>
    cases ho : u.lif.outbox with
    | cons r rest =>
      rw [pump_of_reply (htx.trans ht) (hout.trans ho), hstraps, hbody]
      rfl
    | nil =>
      rw [pump_of_noReply (htx.trans ht) (hout.trans ho), hstraps]
      rfl

/-! ### What a reply adds (R145) -/

/-- A request is answered from the older slot while it is not handled and reads as the request (R145, log 5). -/
theorem claims_iff (d : Decoded) (l : Lif) :
    claims d l = true ↔
      l.handled = false ∧ ∃ r rest, l.slots = r :: rest ∧ decodeRequest r.kind r.body = d := by
  unfold claims
  cases l.slots <;> simp

theorem replyTag_eq (d : Decoded) (l : Lif) :
    replyTag d l =
      match l.slots with
      | r :: _ => if claims d l then r.tag else 0
      | [] => 0 := by
  unfold replyTag
  cases l.slots <;> simp

/-- A reply that is added touches no condition, so it may be added before or after a wrap is told. -/
theorem overflowed_addReply (wrapped : Bool) (d : Decoded) (kind : Byte) (r : Result) (content : List Byte)
    (resets : Bool) (l : Lif) :
    overflowed wrapped (addReply d kind r content resets l) = addReply d kind r content resets (overflowed wrapped l) :=
  rfl

/-- The first of the replies that wait, once one more has joined them. -/
theorem append_singleton_eq_headD_cons {α : Type} (l : List α) (x : α) : ∃ rest, l ++ [x] = l.headD x :: rest := by
  cases l <;> exact ⟨_, rfl⟩

/-- Settles O4. The reply is added as if the wait had been seen before it, and the transmitter, if free, takes up the
first reply: there is one, so no notice. -/
theorem replyChangesTheLinkAlone : Obligations.ReplyChangesTheLinkAlone := by
  unfold Obligations.ReplyChangesTheLinkAlone
  refine ⟨fun c r content s u => ?reply, fun d l => ⟨claims_iff d l, replyTag_eq d l⟩⟩
  case reply =>
    intro e fromSlot reply first bytes rate time
    let add : Lif → Lif := addReply (.request c) (requestKind c + 0x80#8) r content (c == .reset)
    have hanswered : answered c r content s u = pump (e.modLif add) := by
      show finish s (u.modLif add) = _
      rw [finish_eq_pump, waitSeen_modLif s u add fun _ => overflowed_addReply ..]
      rfl
    obtain ⟨wrapped, hlif⟩ : ∃ wrapped, e.lif = overflowed wrapped u.lif := waitSeen_lif s u
    have hadded : (e.modLif add).lif = add (overflowed wrapped u.lif) := congrArg add hlif
    have htx : (e.modLif add).lif.tx = u.lif.tx := by rw [hadded]; rfl
    rw [hanswered]
    cases ht : u.lif.tx with
    | some x =>
      rw [pump_of_busy (htx.trans ht)]
      refine congrArg (fun l => { e with lif := l }) ?_
      simp only [Option.isSome_some, Bool.and_true]
      rw [← ht, hlif]
      rfl
    | none =>
      obtain ⟨rest, hrest⟩ := append_singleton_eq_headD_cons u.lif.outbox reply
      have hout : (e.modLif add).lif.outbox = first :: rest := (congrArg Lif.outbox hadded).trans hrest
      rw [pump_of_reply (htx.trans ht) hout]
      refine congrArg (fun l => { e with lif := l }) ?_
      simp only [Option.isSome_none, Bool.and_false]
      rw [hadded, hlif]
      rfl

end Sys2Proof.Machine.CountersAndTime
